-- ==== Sys2Proof/Word.lean ====
section
/-! DEFINITION. The word types of the block (00_scope.md R9, R10): bytes and 64-bit counters, all unsigned. -/

namespace Sys2Proof

/-- A byte: 8 bits, `b[7]` the most significant (R9). -/
abbrev Byte := BitVec 8

/-- PAYLOAD_LENGTH, PAY_CNT and PMEM addresses: 64 bits unsigned (R26, R33, R60). -/
abbrev Word64 := BitVec 64

end Sys2Proof
end

