-- ==== Sys2Proof/Syntax.lean ====
section
/-! DEFINITION. The syntax of the block's input: the six frame types, the instruction (byte 0 of a frame, one
constructor per row of the opcode table), and the whole frame with its operand bytes. -/

namespace Sys2Proof

/-- The six frame types; there is no "unknown" value (40_registry.md R114). -/
inductive FrameType
  | cont | text | bin | close | ping | pong
deriving DecidableEq, Repr

/-- One constructor per row of the opcode table. The instruction word is byte 0 of a frame, the byte that selects
the type (30_encoding.md R81, R89); its other four bits FIN, RSV1, RSV2, RSV3 are the operands. The operand bytes
after it (MASK and LEN7, extended length, mask key, payload) arrive one a step while the instruction is in flight
(log entry 11). The ten invalid opcodes interpret byte 0 only (R90). -/
inductive Instr
  | cont (fin rsv1 rsv2 rsv3 : Bool)
  | text (fin rsv1 rsv2 rsv3 : Bool)
  | bin (fin rsv1 rsv2 rsv3 : Bool)
  | close (fin rsv1 rsv2 rsv3 : Bool)
  | ping (fin rsv1 rsv2 rsv3 : Bool)
  | pong (fin rsv1 rsv2 rsv3 : Bool)
  | invalid3 (fin rsv1 rsv2 rsv3 : Bool)
  | invalid4 (fin rsv1 rsv2 rsv3 : Bool)
  | invalid5 (fin rsv1 rsv2 rsv3 : Bool)
  | invalid6 (fin rsv1 rsv2 rsv3 : Bool)
  | invalid7 (fin rsv1 rsv2 rsv3 : Bool)
  | invalidB (fin rsv1 rsv2 rsv3 : Bool)
  | invalidC (fin rsv1 rsv2 rsv3 : Bool)
  | invalidD (fin rsv1 rsv2 rsv3 : Bool)
  | invalidE (fin rsv1 rsv2 rsv3 : Bool)
  | invalidF (fin rsv1 rsv2 rsv3 : Bool)
deriving DecidableEq, Repr

/-- The mask key: four bytes in wire order, not an integer (10_state.md R27, 20_memory.md R64). -/
structure MaskKey where
  k0 : Byte
  k1 : Byte
  k2 : Byte
  k3 : Byte
deriving DecidableEq, Repr

/-- The three length forms: LEN7 up to 125, LEN7 = 126, LEN7 = 127 (30_encoding.md R82 to R84, R87). -/
inductive LenForm
  | literal | ext16 | ext64
deriving DecidableEq, Repr

/-- What follows byte 0 of a frame of a valid type: the MASK bit with its key (`none` is MASK = 0), the length form,
and the application payload, unmasked (R82 to R86). -/
structure Operands where
  key     : Option MaskKey
  form    : LenForm
  payload : List Byte
deriving DecidableEq, Repr

/-- A whole frame (R80): its instruction and its operands; a frame of an invalid opcode has no operands (R90). -/
structure Frame where
  start    : Instr
  operands : Option Operands
deriving DecidableEq, Repr

end Sys2Proof
end

