-- ==== Sys2Proof/Machine/Unmask.lean ====
section
/-! DEFINITION. The mask key as a register file and the XOR unmasker (10_state.md R27, 42_payload_unmask.md R141). -/

namespace Sys2Proof.Machine

/-- The absent key: four zero bytes, the identity of the XOR (R27). -/
def zeroKey : MaskKey := ⟨0x00#8, 0x00#8, 0x00#8, 0x00#8⟩

/-- `MASK_KEY[i mod 4]`: the byte that goes with payload byte `i` (R141). -/
def keyByte (key : MaskKey) (i : Nat) : Byte :=
  match i % 4 with
  | 0 => key.k0
  | 1 => key.k1
  | 2 => key.k2
  | _ => key.k3

/-- `MASK_KEY[n] <- b` (R125). Only registers 0 to 3 exist: an `n` above 3, which no run reaches (R46 e), writes none
(log entry 7). -/
def setKeyByte (key : MaskKey) (n : Nat) (b : Byte) : MaskKey :=
  match n with
  | 0 => { key with k0 := b }
  | 1 => { key with k1 := b }
  | 2 => { key with k2 := b }
  | 3 => { key with k3 := b }
  | _ => key

/-- `unmask(b, i, key) = b XOR key[i mod 4]` (R141). -/
def unmask (b : Byte) (i : Nat) (key : MaskKey) : Byte := b ^^^ keyByte key i

/-- A run of payload bytes from index `i` on, each XOR-ed with its key byte: masking and unmasking alike
(R86, R98, R141). -/
def xorPayload (key : MaskKey) : Nat → List Byte → List Byte
  | _, [] => []
  | i, b :: bs => unmask b i key :: xorPayload key (i + 1) bs

end Sys2Proof.Machine
end

