-- ==== Sys2Proof/Config.lean ====
section
/-! DEFINITION. What an instance fixes (00_scope.md R8) and the free values the spec leaves open. -/

namespace Sys2Proof

/-- The level of the pin `cfg_mask_required` in the reset that makes `State.reset`: 1, the policy the source gives
for server-received frames (R8, R40). DESIGN CHOICE, log entry 3. No statement rests on it: CFG.MASK_REQ is a field
of State and a reset cycle samples the pin. -/
def Config.cfgMaskRequired : Bool := true

/-- PMAX, the number of PMEM cells the platform provides; `none` is the spec's default, unbounded (R66). Log entry 5.
PMAX is a field of State, so statements cover every value. -/
def Config.pmax : Option Nat := none

/-- The code on port `f_ftype` when OPCODE is invalid: "unspecified and must not be used" (40_registry.md R113, W3).
A free value of the opcode, log entry 6. -/
opaque Config.ftypeOfInvalid : BitVec 4 → BitVec 3

/-- `is_control` of an invalid opcode: R111 gives it no value. A free value of the opcode, log entry 6; only states
that no run reaches, and port `f_is_ctrl` after an E_OPCODE error, read it. -/
opaque Config.isControlOfInvalid : BitVec 4 → Bool

/-- What the consumer's read number `n` answers where the spec gives it no value: "any value" (W1), an "unconstrained
draw" (20_memory.md R67). A free value of the read's own number, log entries 4 and 13. -/
opaque Config.unspecifiedByte : Nat → Byte

end Sys2Proof
end

