-- ==== Sys2Proof/Machine/Registry.lean ====
section
/-! DEFINITION. The Frame Type Registry (40_registry.md), a pure lookup over the 4-bit opcode. -/

namespace Sys2Proof

/-- The opcode of an instruction: the table's row (30_encoding.md R89). -/
def Instr.opcode : Instr → BitVec 4
  | .cont .. => 0x0#4
  | .text .. => 0x1#4
  | .bin .. => 0x2#4
  | .close .. => 0x8#4
  | .ping .. => 0x9#4
  | .pong .. => 0xA#4
  | .invalid3 .. => 0x3#4
  | .invalid4 .. => 0x4#4
  | .invalid5 .. => 0x5#4
  | .invalid6 .. => 0x6#4
  | .invalid7 .. => 0x7#4
  | .invalidB .. => 0xB#4
  | .invalidC .. => 0xC#4
  | .invalidD .. => 0xD#4
  | .invalidE .. => 0xE#4
  | .invalidF .. => 0xF#4

/-- The operand FIN of an instruction (30_encoding.md R81). -/
def Instr.fin : Instr → Bool
  | .cont x _ _ _ | .text x _ _ _ | .bin x _ _ _ | .close x _ _ _
  | .ping x _ _ _ | .pong x _ _ _ | .invalid3 x _ _ _ | .invalid4 x _ _ _
  | .invalid5 x _ _ _ | .invalid6 x _ _ _ | .invalid7 x _ _ _ | .invalidB x _ _ _
  | .invalidC x _ _ _ | .invalidD x _ _ _ | .invalidE x _ _ _ | .invalidF x _ _ _ => x

/-- The operand RSV1 of an instruction (30_encoding.md R81). -/
def Instr.rsv1 : Instr → Bool
  | .cont _ x _ _ | .text _ x _ _ | .bin _ x _ _ | .close _ x _ _
  | .ping _ x _ _ | .pong _ x _ _ | .invalid3 _ x _ _ | .invalid4 _ x _ _
  | .invalid5 _ x _ _ | .invalid6 _ x _ _ | .invalid7 _ x _ _ | .invalidB _ x _ _
  | .invalidC _ x _ _ | .invalidD _ x _ _ | .invalidE _ x _ _ | .invalidF _ x _ _ => x

/-- The operand RSV2 of an instruction (30_encoding.md R81). -/
def Instr.rsv2 : Instr → Bool
  | .cont _ _ x _ | .text _ _ x _ | .bin _ _ x _ | .close _ _ x _
  | .ping _ _ x _ | .pong _ _ x _ | .invalid3 _ _ x _ | .invalid4 _ _ x _
  | .invalid5 _ _ x _ | .invalid6 _ _ x _ | .invalid7 _ _ x _ | .invalidB _ _ x _
  | .invalidC _ _ x _ | .invalidD _ _ x _ | .invalidE _ _ x _ | .invalidF _ _ x _ => x

/-- The operand RSV3 of an instruction (30_encoding.md R81). -/
def Instr.rsv3 : Instr → Bool
  | .cont _ _ _ x | .text _ _ _ x | .bin _ _ _ x | .close _ _ _ x
  | .ping _ _ _ x | .pong _ _ _ x | .invalid3 _ _ _ x | .invalid4 _ _ _ x
  | .invalid5 _ _ _ x | .invalid6 _ _ _ x | .invalid7 _ _ _ x | .invalidB _ _ _ x
  | .invalidC _ _ _ x | .invalidD _ _ _ x | .invalidE _ _ _ x | .invalidF _ _ _ x => x

end Sys2Proof

namespace Sys2Proof.Machine

/-- `registry_valid(op)` (R110). -/
def registryValid (op : BitVec 4) : Bool :=
  op == 0x0#4 || op == 0x1#4 || op == 0x2#4 || op == 0x8#4 || op == 0x9#4 || op == 0xA#4

/-- `registry_type(op)` (R110): no value for the ten invalid opcodes, never a default. -/
def registryType (op : BitVec 4) : Option FrameType :=
  match op.toNat with
  | 0x0 => some .cont
  | 0x1 => some .text
  | 0x2 => some .bin
  | 0x8 => some .close
  | 0x9 => some .ping
  | 0xA => some .pong
  | _ => none

/-- `is_control(t)` (R111). -/
def isControl : FrameType → Bool
  | .cont | .text | .bin => false
  | .close | .ping | .pong => true

/-- `registry_opcode(t)`, the reverse mapping (R112). -/
def registryOpcode : FrameType → BitVec 4
  | .cont => 0x0#4
  | .text => 0x1#4
  | .bin => 0x2#4
  | .close => 0x8#4
  | .ping => 0x9#4
  | .pong => 0xA#4

/-- The 3-bit code of a frame type on port `f_ftype` (R113). -/
def ftypeCode : FrameType → BitVec 3
  | .cont => 0b000#3
  | .text => 0b001#3
  | .bin => 0b010#3
  | .close => 0b100#3
  | .ping => 0b101#3
  | .pong => 0b110#3

/-- `is_control(registry_type(op))`, the IS_CTRL view of R29 and the `ctl` of R126; a free value where the registry
gives no type (log entry 6). -/
def isControlOp (op : BitVec 4) : Bool :=
  match registryType op with
  | some t => isControl t
  | none => Config.isControlOfInvalid op

/-- The port `f_ftype` for an opcode (R29, R113); a free value where the registry gives no type (W3, log entry 6). -/
def ftypePort (op : BitVec 4) : BitVec 3 :=
  match registryType op with
  | some t => ftypeCode t
  | none => Config.ftypeOfInvalid op

end Sys2Proof.Machine
end

