-- ==== Sys2Proof/WellFormed.lean ====
section
/-! DEFINITION. Which frames have an encoding. Every `Instr` has one (byte 0 admits every value of its four operand
bits under each of the sixteen opcodes, 30_encoding.md R81), so the checks are those of the whole frame. Whether the
decoder ACCEPTS a frame is a different question (43_frame_types.md R158): an unacceptable frame is well formed and
raises its protocol error. -/

namespace Sys2Proof

/-- The largest payload length a form can express (the last column of R87, table of the six header shapes). -/
def LenForm.maxLength : LenForm → Nat
  | .literal => 125
  | .ext16 => 65535
  | .ext64 => 2 ^ 64 - 1

/-- The payload length fits the form's field (R83, R84, R87). Non-minimal forms are legal (R92). -/
def Operands.lengthFits (o : Operands) : Bool := o.payload.length ≤ o.form.maxLength

/-- A frame is well formed: operands exactly when its opcode is valid (R90), and a length its form can express. -/
def Frame.wf (f : Frame) : Bool :=
  match f.operands with
  | none => !Machine.registryValid f.start.opcode
  | some o => Machine.registryValid f.start.opcode && o.lengthFits

end Sys2Proof
end

