-- ==== Sys2Proof/Decode.lean ====
section
/-! DEFINITION. Decoding and encoding: byte 0 to an instruction and back (30_encoding.md R81, R89, R90), and whole
frames (R80 to R87, R95, R98). Total on any bytes, rejecting by name. The encoders are not hardware (00_scope.md R5:
no encoder datapath); they are R98's. -/

namespace Sys2Proof

/-- Why bytes do not decode. The machine itself never meets either: it takes one byte a step and waits for more. -/
inductive DecodeReject
  /-- There is no byte at all. -/
  | noByte
  /-- The bytes end inside the frame. -/
  | truncated
deriving DecidableEq, Repr

/-- Byte 0 to its instruction: FIN = `b[7]`, RSV1..3 = `b[6]`, `b[5]`, `b[4]`, OPCODE = `b[3:0]` (R81, R89). -/
def decodeByte (b : Byte) : Instr :=
  let fin := b.getLsbD 7
  let rsv1 := b.getLsbD 6
  let rsv2 := b.getLsbD 5
  let rsv3 := b.getLsbD 4
  match (b.extractLsb' 0 4).toNat with
  | 0x0 => .cont fin rsv1 rsv2 rsv3
  | 0x1 => .text fin rsv1 rsv2 rsv3
  | 0x2 => .bin fin rsv1 rsv2 rsv3
  | 0x3 => .invalid3 fin rsv1 rsv2 rsv3
  | 0x4 => .invalid4 fin rsv1 rsv2 rsv3
  | 0x5 => .invalid5 fin rsv1 rsv2 rsv3
  | 0x6 => .invalid6 fin rsv1 rsv2 rsv3
  | 0x7 => .invalid7 fin rsv1 rsv2 rsv3
  | 0x8 => .close fin rsv1 rsv2 rsv3
  | 0x9 => .ping fin rsv1 rsv2 rsv3
  | 0xA => .pong fin rsv1 rsv2 rsv3
  | 0xB => .invalidB fin rsv1 rsv2 rsv3
  | 0xC => .invalidC fin rsv1 rsv2 rsv3
  | 0xD => .invalidD fin rsv1 rsv2 rsv3
  | 0xE => .invalidE fin rsv1 rsv2 rsv3
  | _ => .invalidF fin rsv1 rsv2 rsv3

/-- The instruction at the head of a byte stream, and the bytes after its instruction word. -/
def decode : List Byte → Except DecodeReject (Instr × List Byte)
  | [] => .error .noByte
  | b :: rest => .ok (decodeByte b, rest)

/-- Byte 0 from its fields, most significant first (R81). -/
def byteZero (fin rsv1 rsv2 rsv3 : Bool) (opcode : BitVec 4) : Byte :=
  BitVec.ofBool fin ++ BitVec.ofBool rsv1 ++ BitVec.ofBool rsv2 ++ BitVec.ofBool rsv3 ++ opcode

/-- Byte 1 from its fields: MASK = `b[7]`, LEN7 = `b[6:0]` (R82). -/
def byteOne (masked : Bool) (len7 : BitVec 7) : Byte := BitVec.ofBool masked ++ len7

/-- An instruction's word, byte 0 (R81, R89). -/
def encodeByte : Instr → Byte
  | .cont fin rsv1 rsv2 rsv3 => byteZero fin rsv1 rsv2 rsv3 0x0#4
  | .text fin rsv1 rsv2 rsv3 => byteZero fin rsv1 rsv2 rsv3 0x1#4
  | .bin fin rsv1 rsv2 rsv3 => byteZero fin rsv1 rsv2 rsv3 0x2#4
  | .close fin rsv1 rsv2 rsv3 => byteZero fin rsv1 rsv2 rsv3 0x8#4
  | .ping fin rsv1 rsv2 rsv3 => byteZero fin rsv1 rsv2 rsv3 0x9#4
  | .pong fin rsv1 rsv2 rsv3 => byteZero fin rsv1 rsv2 rsv3 0xA#4
  | .invalid3 fin rsv1 rsv2 rsv3 => byteZero fin rsv1 rsv2 rsv3 0x3#4
  | .invalid4 fin rsv1 rsv2 rsv3 => byteZero fin rsv1 rsv2 rsv3 0x4#4
  | .invalid5 fin rsv1 rsv2 rsv3 => byteZero fin rsv1 rsv2 rsv3 0x5#4
  | .invalid6 fin rsv1 rsv2 rsv3 => byteZero fin rsv1 rsv2 rsv3 0x6#4
  | .invalid7 fin rsv1 rsv2 rsv3 => byteZero fin rsv1 rsv2 rsv3 0x7#4
  | .invalidB fin rsv1 rsv2 rsv3 => byteZero fin rsv1 rsv2 rsv3 0xB#4
  | .invalidC fin rsv1 rsv2 rsv3 => byteZero fin rsv1 rsv2 rsv3 0xC#4
  | .invalidD fin rsv1 rsv2 rsv3 => byteZero fin rsv1 rsv2 rsv3 0xD#4
  | .invalidE fin rsv1 rsv2 rsv3 => byteZero fin rsv1 rsv2 rsv3 0xE#4
  | .invalidF fin rsv1 rsv2 rsv3 => byteZero fin rsv1 rsv2 rsv3 0xF#4

/-- The words of an instruction: one byte. -/
def encode (i : Instr) : List Byte := [encodeByte i]

/-- The `n` big-endian bytes of `v`, most significant first (20_memory.md R64, 30_encoding.md R83, R84). -/
def bigEndian : Nat → Nat → List Byte
  | 0, _ => []
  | n + 1, v => BitVec.ofNat 8 (v / 256 ^ n) :: bigEndian n v

/-- The value of big-endian bytes (R64, R95). -/
def bigEndianValue (bs : List Byte) : Nat := bs.foldl (fun v b => v * 256 + b.toNat) 0

/-- How many extended-length bytes a form has (R80, R83, R84). -/
def LenForm.extBytes : LenForm → Nat
  | .literal => 0
  | .ext16 => 2
  | .ext64 => 8

/-- The length indicator of a form and a length (R82). -/
def LenForm.indicator (form : LenForm) (n : Nat) : BitVec 7 :=
  match form with
  | .literal => BitVec.ofNat 7 n
  | .ext16 => 126#7
  | .ext64 => 127#7

/-- The form a length indicator announces (R82). -/
def formOfIndicator (l : BitVec 7) : LenForm :=
  if l ≤ 125#7 then .literal else if l = 126#7 then .ext16 else .ext64

/-- The minimal form, the one R98 uses to produce byte strings. -/
def minimalForm (n : Nat) : LenForm :=
  if n ≤ 125 then .literal else if n ≤ 65535 then .ext16 else .ext64

/-- The mask-key bytes on the wire (R85). -/
def keyBytes : Option MaskKey → List Byte
  | none => []
  | some k => [k.k0, k.k1, k.k2, k.k3]

/-- The bytes after byte 0 (R80, R82 to R86): byte 1, extended length, mask key, wire payload. -/
def encodeOperands (o : Operands) : List Byte :=
  byteOne o.key.isSome (o.form.indicator o.payload.length) ::
    (bigEndian o.form.extBytes o.payload.length ++ keyBytes o.key ++
      Machine.xorPayload (o.key.getD Machine.zeroKey) 0 o.payload)

/-- A whole frame on the wire (R80). -/
def encodeFrame (f : Frame) : List Byte :=
  encodeByte f.start ::
    match f.operands with
    | none => []
    | some o => encodeOperands o

/-- `n` bytes from the front, if there are that many. -/
def takeExactly (n : Nat) (bs : List Byte) : Option (List Byte × List Byte) :=
  if n ≤ bs.length then some (bs.take n, bs.drop n) else none

/-- The key four bytes make; fewer make none. -/
def keyOfBytes : List Byte → Option MaskKey
  | [k0, k1, k2, k3] => some ⟨k0, k1, k2, k3⟩
  | _ => none

/-- The operands that follow byte 0 of a frame of a valid type (R82 to R86, R95), and the bytes after the frame. -/
def decodeOperands : List Byte → Option (Operands × List Byte)
  | [] => none
  | b1 :: r1 =>
    let masked := b1.getLsbD 7
    let len7 := b1.extractLsb' 0 7
    let form := formOfIndicator len7
    match takeExactly form.extBytes r1 with
    | none => none
    | some (ext, r2) =>
      let plen := if form = .literal then len7.toNat else bigEndianValue ext
      match takeExactly (if masked then 4 else 0) r2 with
      | none => none
      | some (kb, r3) =>
        let key := keyOfBytes kb
        match takeExactly plen r3 with
        | none => none
        | some (wire, r4) => some (⟨key, form, Machine.xorPayload (key.getD Machine.zeroKey) 0 wire⟩, r4)

/-- The frame at the head of a byte stream, and the bytes after it (R80, R94). A frame of an invalid opcode is its
byte 0 only (R90). -/
def decodeFrame (bs : List Byte) : Except DecodeReject (Frame × List Byte) :=
  match decode bs with
  | .error r => .error r
  | .ok (i, rest) =>
    if Machine.registryValid i.opcode then
      match decodeOperands rest with
      | none => .error .truncated
      | some (o, rest') => .ok (⟨i, some o⟩, rest')
    else .ok (⟨i, none⟩, rest)

/-- The length of the longest header, 14 bytes (R87). -/
def longestHeader : Nat := 14

/-- The bytes of `n` 16-bit table words, each with its high byte first on the wire: "byte 0 in bits 15 to 8" (R89,
log entry 12). -/
def tableWordBytes : Nat → Nat → List Byte
  | 0, _ => []
  | n + 1, w => BitVec.ofNat 8 (w / 256) :: BitVec.ofNat 8 w :: tableWordBytes n (w / 65536)

/-- The stream of an instruction whose bits are `w`, `nbits` of them given and the rest 0, out to the longest header. -/
def tableBytes (nbits w : Nat) : List Byte :=
  tableWordBytes (max (longestHeader / 2) ((nbits + 15) / 16)) (w % 2 ^ nbits)

/-- The instruction the decoder reads from a word numbered as the opcode table numbers it (R89). -/
def decodeTableWord (nbits w : Nat) : Option Instr :=
  match decode (tableBytes nbits w) with
  | .ok (i, _) => some i
  | .error _ => none

end Sys2Proof
end

