-- ==== Sys2Proof/Machine/State.lean ====
section
/-! DEFINITION. The state of one decoder instance as plain data (10_state.md R20), its ports of one clock cycle (R42),
the reasons a step or a consumer's read can stop, and the state after reset (R44). -/

namespace Sys2Proof.Machine

/-- PHASE, the sequencer's position in a frame (R31, R39). -/
inductive Phase
  | b0 | b1 | ext | key | pay | err
deriving DecidableEq, Repr

/-- ERR_REASON and the port `err_reason` (R37, R41). -/
inductive ErrReason
  | none | opcode | rsv | mask | ctrlFrag | ctrlLen
deriving DecidableEq, Repr

/-- The signal of a step, the source's DecoderSignal (R36). -/
inductive Sig
  | incomplete | frameComplete | protocolError
deriving DecidableEq, Repr

/-- The control action of a step (R38). -/
inductive CtlAction
  | none | close | ping | pong
deriving DecidableEq, Repr

/-- The input pins of one clock cycle (R42; `clk` is the step itself). -/
structure Pins where
  rst             : Bool
  cfgMaskRequired : Bool
  inValid         : Bool
  inByte          : Byte
deriving DecidableEq, Repr

/-- The payload write port in a cycle with `pw_en` = 1 (R42, 20_memory.md R62). -/
structure PayloadWrite where
  addr : Word64
  data : Byte
deriving DecidableEq, Repr

/-- The per-step output ports of the last clock cycle (R35, R42; log entry 2). -/
inductive Outputs
  /-- A cycle with `in_valid` = 0 and `rst` = 0: `sig_valid` = 0 and the ports read 0. -/
  | idle
  /-- A cycle with `rst` = 1: `sig_valid` = 0. -/
  | resetCycle
  /-- A cycle that consumed a byte: `sig_valid` = 1; `write` is the write port, `none` when `pw_en` = 0. -/
  | consumed (sig : Sig) (reason : ErrReason) (action : CtlAction) (write : Option PayloadWrite)
deriving DecidableEq, Repr

/-- PMEM: (address, byte) pairs, addresses strictly rising, below 2^64 (R60). An address that is not listed has no
value, since PMEM is never cleared and its contents are unspecified until written (R67, log entry 4). -/
abbrev Memory := List Host.Cell

/-- One decoder instance (R20), its platform's PMAX, and the ports. -/
structure State where
  /-- PHASE (R31). -/
  phase         : Phase
  /-- CNT (R32). -/
  cnt           : BitVec 4
  /-- PAY_CNT (R33). -/
  payCnt        : Word64
  /-- FIN (R21). -/
  fin           : Bool
  /-- RSV1 (R22). -/
  rsv1          : Bool
  /-- RSV2 (R22). -/
  rsv2          : Bool
  /-- RSV3 (R22). -/
  rsv3          : Bool
  /-- OPCODE (R23). -/
  opcode        : BitVec 4
  /-- MASKED (R24). -/
  masked        : Bool
  /-- LEN7 (R25). -/
  len7          : BitVec 7
  /-- PAYLOAD_LENGTH (R26). -/
  payloadLength : Word64
  /-- MASK_KEY[0..3] (R27). -/
  maskKey       : MaskKey
  /-- CFG.MASK_REQ (R40). -/
  maskReq       : Bool
  /-- ERR_REASON (R41). -/
  errReason     : ErrReason
  /-- PMEM (20_memory.md R60). -/
  pmem          : Memory
  /-- How many cells from 0 on hold the payload of the last completed frame that had one, while its validity window is
  open; 0 when none is (20_memory.md R72; the model's own record, log entry 13). No rule of the block reads it. -/
  window        : Word64
  /-- PMAX, the platform's parameter; `none` is unbounded (20_memory.md R66, log entry 5). -/
  pmax          : Option Nat
  /-- The input pins of the cycle in progress (the model's own field, log entry 1). -/
  pins          : Pins
  /-- The input pins of the cycles to come, oldest first (the model's own field, log entry 1). -/
  pending       : List Pins
  /-- The output ports of the last cycle (the model's own field, log entry 2). -/
  out           : Outputs
deriving DecidableEq, Repr

/-- Why a step stops with a fault: there is no such reason. No rule of the spec stops the machine: a protocol error is a
next state (60_exceptions.md R190), the block never reads PMEM (20_memory.md R60), and a consumer's read without a stated
value draws one (R67, W1). -/
inductive Fault
deriving DecidableEq, Repr

/-- Why a step has no meaning. -/
inductive Refusal
  /-- Raised by an arm of `exec` that has no meaning yet; no arm raises it now. Safe. -/
  | notModelled (mnemonic : String)
  /-- Raised by a payload step of a frame whose PAYLOAD_LENGTH exceeds a finite PMAX: "a model must treat a frame whose
  PAYLOAD_LENGTH exceeds PMAX as refused" (20_memory.md R66, W2, log entry 5). Safe. -/
  | payloadExceedsPmax
deriving DecidableEq, Repr

/-- The machine right after reset (R44, 70_reset_and_hazards.md R210), with PMEM never written and no cycle pending.
The level of `cfg_mask_required` is log entry 3; the model's own fields are log entries 1, 2, 5 and 13. -/
def State.reset : State where
  phase := .b0
  cnt := 0#4
  payCnt := 0#64
  fin := false
  rsv1 := false
  rsv2 := false
  rsv3 := false
  opcode := 0x0#4
  masked := false
  len7 := 0#7
  payloadLength := 0#64
  maskKey := ⟨0x00#8, 0x00#8, 0x00#8, 0x00#8⟩
  maskReq := Config.cfgMaskRequired
  errReason := .none
  pmem := []
  window := 0#64
  pmax := Config.pmax
  pins := ⟨false, false, false, 0x00#8⟩
  pending := []
  out := .resetCycle

end Sys2Proof.Machine
end

