-- ==== Sys2Proof/Machine/Operands.lean ====
section
/-! DEFINITION. The operands of a frame as the byte steps see them: the fields of byte 0 and byte 1, the assembly of
the extended length, the header's size, the frame-relative offset, and the instruction in flight. -/

namespace Sys2Proof.Machine

/-- The five fields of byte 0 (30_encoding.md R81). -/
structure ByteZero where
  fin    : Bool
  rsv1   : Bool
  rsv2   : Bool
  rsv3   : Bool
  opcode : BitVec 4
deriving DecidableEq, Repr

/-- The MASK bit of byte 1, `b[7]` (R82). -/
def maskBit (b : Byte) : Bool := b.getLsbD 7

/-- The length indicator of byte 1, `b[6:0]` (R82). -/
def lengthIndicator (b : Byte) : BitVec 7 := b.extractLsb' 0 7

/-- `zext_64(l)`, the literal length (R95). -/
def literalLength (l : BitVec 7) : Word64 := l.setWidth 64

/-- `(v << 8) | zext_64(b)`: one more big-endian byte of the length (41_header_parse.md R124, 42_payload_unmask.md
R143 c). -/
def appendLengthByte (v : Word64) (b : Byte) : Word64 := (v <<< 8) ||| b.setWidth 64

/-- How many extended-length bytes the EXT phase needs: 2 when LEN7 = 126, else 8 (R124). -/
def extNeed (l : BitVec 7) : BitVec 4 := if l = 126#7 then 2#4 else 8#4

/-- The extended-length bytes of a header: 0, 2 or 8 (10_state.md R29). -/
def extSize (l : BitVec 7) : Nat := if l ≤ 125#7 then 0 else if l = 126#7 then 2 else 8

/-- HDR_SIZE (R29, 30_encoding.md R87): a view no rule of the block reads. -/
def hdrSize (s : State) : Nat := 2 + extSize s.len7 + if s.masked then 4 else 0

/-- The frame-relative offset of the next byte (R30); none in the terminal phase. -/
def frameOffset (s : State) : Option Nat :=
  match s.phase with
  | .b0 => some 0
  | .b1 => some 1
  | .ext => some (2 + s.cnt.toNat)
  | .key => some (2 + extSize s.len7 + s.cnt.toNat)
  | .pay => some (hdrSize s + s.payCnt.toNat)
  | .err => none

/-- Byte 0 of the frame in flight, read back from the registers the byte-0 step wrote (R21 to R23). -/
def byteZeroOfRegisters (s : State) : Byte := byteZero s.fin s.rsv1 s.rsv2 s.rsv3 s.opcode

/-- The instruction the next byte belongs to. In PH_B0 the byte itself is byte 0 and is decoded; later the frame in
flight is the one whose byte 0 the registers hold (R30, R31, log entry 11). -/
def instrInFlight (s : State) : Instr :=
  match s.phase with
  | .b0 => decodeByte s.pins.inByte
  | .b1 | .ext | .key | .pay | .err => decodeByte (byteZeroOfRegisters s)

/-- A clock cycle in which the host feeds a byte (R42, 70_reset_and_hazards.md R220). -/
def byteCycle (b : Byte) : Pins := ⟨false, false, true, b⟩

/-- The cycles that feed a byte string, one byte a cycle, in stream order (R214). -/
def byteCycles (bs : List Byte) : List Pins := bs.map byteCycle

/-- A frame's PAYLOAD_LENGTH exceeds a finite PMAX (20_memory.md R66). -/
def exceedsPmax (s : State) : Bool :=
  match s.pmax with
  | none => false
  | some n => n < s.payloadLength.toNat

end Sys2Proof.Machine
end

