-- ==== Sys2Proof/Machine/Ops.lean ====
section
/-! DEFINITION. The shared operations over PMEM, the ports and the registers: `MemWrite` and `MemRead`, `emit`,
taking an exception (`raise ProtocolError`) and the reset that is the only way out of it. -/

namespace Sys2Proof.Machine

/-- What one step or one instruction answers. -/
abbrev Outcome := Host.Outcome State Fault Refusal

/-! ## PMEM (20_memory.md R60 to R69) -/

/-- The byte a cell holds; none where nothing was written (R63, R67). -/
def Memory.read : Memory → Nat → Option Byte
  | [], _ => none
  | (k, x) :: m, a => if k = a then some x else Memory.read m a

/-- PMEM with cell `a` set to `v`, the list kept strictly rising (R62). -/
def Memory.write : Memory → Nat → Byte → Memory
  | [], a, v => [(a, v)]
  | (k, x) :: m, a, v =>
    if a < k then (a, v) :: (k, x) :: m
    else if a = k then (a, v) :: m
    else (k, x) :: Memory.write m a v

/-- The canonical form from address `lo` on: strictly rising addresses of the 64-bit space (R60). -/
def Memory.wfFrom : Nat → Memory → Bool
  | _, [] => true
  | lo, (k, _) :: m => decide (lo ≤ k) && decide (k < 2 ^ 64) && Memory.wfFrom (k + 1) m

/-- The canonical form. An unlisted cell has no value, so no listed byte equals what it reads as. -/
def Memory.wf (m : Memory) : Bool := Memory.wfFrom 0 m

/-! ## Ports and registers -/

/-- The next clock cycle's pins become the cycle in progress (R42). -/
def State.latch (s : State) (p : Pins) (rest : List Pins) : State := { s with pins := p, pending := rest }

/-- No host move is left: the host withholds bytes, `in_valid` = 0 and `rst` = 0 (70_reset_and_hazards.md R220). -/
def State.withhold (s : State) : State := { s with pins := { s.pins with rst := false, inValid := false } }

/-- The outputs every byte's step starts from: Incomplete, no error, no action, no `MemWrite` (41_header_parse.md
R120). -/
def State.beginStep (s : State) : State := { s with out := .consumed .incomplete .none .none none }

/-- The outputs with the three enumerated ports set and the write port as it was. -/
def Outputs.withSignal (o : Outputs) (sig : Sig) (reason : ErrReason) (action : CtlAction) : Outputs :=
  match o with
  | .consumed _ _ _ w => .consumed sig reason action w
  | .idle => .consumed sig reason action none
  | .resetCycle => .consumed sig reason action none

/-- `emit(sig, reason, action)` (00_scope.md R11). -/
def State.emit (s : State) (sig : Sig) (reason : ErrReason) (action : CtlAction) : State :=
  { s with out := s.out.withSignal sig reason action }

/-- `MemWrite(i, 1, u)`: one cell, and one cycle of the write port (20_memory.md R62). -/
def State.memWrite (s : State) (i : Word64) (u : Byte) : State :=
  { s with
    pmem := Memory.write s.pmem i.toNat u
    out := .consumed .incomplete .none .none (some ⟨i, u⟩) }

/-- `MemRead(addr, 1)`, the consumer's read, which the block never performs (R63). Inside the validity window it answers
the last value written (R63, R72, R218). Anywhere else the spec gives it no value (R67, W1) and it answers a free value of
the read's number `draw`, which the consumer supplies (log entries 4 and 13). -/
def memRead (s : State) (addr : Word64) (draw : Nat) : Byte :=
  if addr < s.window then (Memory.read s.pmem addr.toNat).getD (Config.unspecifiedByte draw)
  else Config.unspecifiedByte draw

/-! ## Taking an exception, and the way out (60_exceptions.md R190, R196) -/

/-- `raise ProtocolError(reason)` (R190): PHASE to the terminal phase, the reason recorded, the signal raised. No
return address is saved and nothing is written to PMEM; the frame field registers keep what the step extracted. -/
def raiseProtocolError (reason : ErrReason) (s : State) : State :=
  { s with
    phase := .err
    errReason := reason
    out := s.out.withSignal .protocolError reason .none }

/-- A clock cycle with `rst` = 1 (70_reset_and_hazards.md R210, R211; 10_state.md R44): every register takes its reset
value, CFG.MASK_REQ samples the pin, PMEM is not changed, a byte presented is not consumed. There is no return from a
protocol error (R195); this is the only way out of it (R196). -/
def resetCycle (s : State) : State :=
  { s with
    phase := .b0
    cnt := 0#4
    payCnt := 0#64
    fin := false
    rsv1 := false
    rsv2 := false
    rsv3 := false
    opcode := 0x0#4
    masked := false
    len7 := 0#7
    payloadLength := 0#64
    maskKey := ⟨0x00#8, 0x00#8, 0x00#8, 0x00#8⟩
    maskReq := s.pins.cfgMaskRequired
    errReason := .none
    out := .resetCycle }

/-- A clock cycle with `in_valid` = 0 and `rst` = 0: no state changes, the outputs are idle (R42, R206, R222). -/
def idleCycle (s : State) : State := { s with out := .idle }

end Sys2Proof.Machine
end

