-- ==== Sys2Proof/Machine/Flags.lean ====
section
/-! DEFINITION. The block has no condition codes; what looks like flags are the sticky error and the output ports
(10_state.md R35). Here are the numeric codes (R36 to R39), the control action of a completed frame (43_frame_types.md
R150), and the ports as the consumer sees them after a clock cycle (R42). -/

namespace Sys2Proof.Machine

/-- `sig` codes (R36). -/
def Sig.code : Sig → BitVec 2
  | .incomplete => 0b00#2
  | .frameComplete => 0b01#2
  | .protocolError => 0b10#2

/-- `err_reason` codes (R37). -/
def ErrReason.code : ErrReason → BitVec 3
  | .none => 0#3
  | .opcode => 1#3
  | .rsv => 2#3
  | .mask => 3#3
  | .ctrlFrag => 4#3
  | .ctrlLen => 5#3

/-- `ctl_action` codes (R38). -/
def CtlAction.code : CtlAction → BitVec 2
  | .none => 0#2
  | .close => 1#2
  | .ping => 2#2
  | .pong => 3#2

/-- PHASE codes (R39); 5 and 6 do not occur. -/
def Phase.code : Phase → BitVec 3
  | .b0 => 0#3
  | .b1 => 1#3
  | .ext => 2#3
  | .key => 3#3
  | .pay => 4#3
  | .err => 7#3

/-- The control action that goes with a completed frame of each type (R150, the last column of R158). -/
def ctlActionOf : FrameType → CtlAction
  | .cont => .none
  | .text => .none
  | .bin => .none
  | .close => .close
  | .ping => .ping
  | .pong => .pong

/-- The control action of a completed frame, from its opcode (R150): "ACT_NONE otherwise". -/
def completionAction (op : BitVec 4) : CtlAction :=
  match registryType op with
  | some t => ctlActionOf t
  | none => .none

/-- MASK_KEY on the 32-bit port, first wire byte most significant (R27). -/
def maskKeyPort (k : MaskKey) : BitVec 32 := k.k0 ++ k.k1 ++ k.k2 ++ k.k3

/-- The output ports of R42. `none` is a port whose value the spec does not state in that cycle: `sig`, `err_reason`
and `ctl_action` of a reset cycle, `pw_addr` and `pw_data` while `pw_en` = 0 (log entry 2). -/
structure Ports where
  inReady        : Bool
  sigValid       : Bool
  sig            : Option (BitVec 2)
  errReason      : Option (BitVec 3)
  ctlAction      : Option (BitVec 2)
  pwEn           : Bool
  pwAddr         : Option Word64
  pwData         : Option Byte
  fFin           : Bool
  fRsv           : BitVec 3
  fOpcode        : BitVec 4
  fFtype         : BitVec 3
  fFtypeValid    : Bool
  fIsCtrl        : Bool
  fMasked        : Bool
  fLen7          : BitVec 7
  fMaskKey       : BitVec 32
  fPayloadLength : Word64
  dbgPhase       : BitVec 3
deriving DecidableEq, Repr

/-- `sig_valid`: the cycle consumed a byte (R42). -/
def Outputs.sigValid : Outputs → Bool
  | .idle => false
  | .resetCycle => false
  | .consumed .. => true

/-- The `sig` port: 0 when idle, not stated in a reset cycle (R36, R42). -/
def Outputs.sigPort : Outputs → Option (BitVec 2)
  | .idle => some 0#2
  | .resetCycle => none
  | .consumed sig _ _ _ => some sig.code

/-- The `err_reason` port (R37, R41, R42). -/
def Outputs.errReasonPort : Outputs → Option (BitVec 3)
  | .idle => some 0#3
  | .resetCycle => none
  | .consumed _ reason _ _ => some reason.code

/-- The `ctl_action` port (R38, R42). -/
def Outputs.ctlActionPort : Outputs → Option (BitVec 2)
  | .idle => some 0#2
  | .resetCycle => none
  | .consumed _ _ action _ => some action.code

/-- The write port of the cycle, none when `pw_en` = 0 (R42, R62). -/
def Outputs.payloadWrite : Outputs → Option PayloadWrite
  | .idle => none
  | .resetCycle => none
  | .consumed _ _ _ w => w

/-- All output ports after a clock cycle (R42); the `f_*` ports and `dbg_phase` are the post-step registers and views
(R29). -/
def ports (s : State) : Ports where
  inReady := true
  sigValid := s.out.sigValid
  sig := s.out.sigPort
  errReason := s.out.errReasonPort
  ctlAction := s.out.ctlActionPort
  pwEn := s.out.payloadWrite.isSome
  pwAddr := s.out.payloadWrite.map PayloadWrite.addr
  pwData := s.out.payloadWrite.map PayloadWrite.data
  fFin := s.fin
  fRsv := BitVec.ofBool s.rsv1 ++ BitVec.ofBool s.rsv2 ++ BitVec.ofBool s.rsv3
  fOpcode := s.opcode
  fFtype := ftypePort s.opcode
  fFtypeValid := registryValid s.opcode
  fIsCtrl := isControlOp s.opcode
  fMasked := s.masked
  fLen7 := s.len7
  fMaskKey := maskKeyPort s.maskKey
  fPayloadLength := s.payloadLength
  dbgPhase := s.phase.code

end Sys2Proof.Machine
end

