-- ==== Sys2Proof/Machine/Header.lean ====
section
/-! DEFINITION. The header steps (41_header_parse.md R121 to R128) and the procedures that run inside them: length
known, header complete, and frame completion (43_frame_types.md R150). -/

namespace Sys2Proof.Machine

/-- `frame_complete()` (R150): back to PH_B0 with FrameComplete and the type's control action; every frame field
register keeps its value. -/
def frameComplete (s : State) : State :=
  { s with phase := .b0 }.emit .frameComplete .none (completionAction s.opcode)

/-- `header_complete(plen)` (R127). -/
def headerComplete (plen : Word64) (s : State) : State :=
  if plen = 0#64 then frameComplete s
  else { s with phase := .pay, payCnt := 0#64 }.emit .incomplete .none .none

/-- `length_known(fin, op, plen, masked)` (R126): the control-frame check, FIN half first, then the way on. -/
def lengthKnown (fin : Bool) (op : BitVec 4) (plen : Word64) (masked : Bool) (s : State) : State :=
  if isControlOp op ∧ fin = false then raiseProtocolError .ctrlFrag s
  else if isControlOp op ∧ plen > 125#64 then raiseProtocolError .ctrlLen s
  else if masked then { s with phase := .key, cnt := 0#4 }.emit .incomplete .none .none
  else headerComplete plen s

/-- A new, empty frame and the extraction of byte 0 (10_state.md R28, the first half of R121). -/
def newFrame (h : ByteZero) (s : State) : State :=
  { s with
    masked := false
    len7 := 0#7
    payloadLength := 0#64
    maskKey := zeroKey
    cnt := 0#4
    payCnt := 0#64
    fin := h.fin
    rsv1 := h.rsv1
    rsv2 := h.rsv2
    rsv3 := h.rsv3
    opcode := h.opcode }

/-- `step_b0` (R121): the fields are written also on an error; the opcode check comes before the reserved bits. -/
def stepB0 (h : ByteZero) (s : State) : State :=
  let s := newFrame h s
  if registryValid h.opcode = false then raiseProtocolError .opcode s
  else if h.rsv1 ∨ h.rsv2 ∨ h.rsv3 then raiseProtocolError .rsv s
  else { s with phase := .b1 }.emit .incomplete .none .none

/-- `choose_length_path(m, l)` (R123). -/
def chooseLengthPath (m : Bool) (l : BitVec 7) (s : State) : State :=
  if l ≤ 125#7 then
    lengthKnown s.fin s.opcode (literalLength l) m { s with payloadLength := literalLength l }
  else { s with phase := .ext, cnt := 0#4 }.emit .incomplete .none .none

/-- `step_b1` (R122): MASKED and LEN7 are written also on an error; the mask check comes before the length. -/
def stepB1 (b : Byte) (s : State) : State :=
  let s := { s with masked := maskBit b, len7 := lengthIndicator b }
  if maskBit b ≠ s.maskReq then raiseProtocolError .mask s
  else chooseLengthPath (maskBit b) (lengthIndicator b) s

/-- `step_ext` (R124): one more byte of the extended length. -/
def stepExt (b : Byte) (s : State) : State :=
  let v := appendLengthByte s.payloadLength b
  let c := s.cnt + 1#4
  let s' := { s with payloadLength := v, cnt := c }
  if c = extNeed s.len7 then lengthKnown s.fin s.opcode v s.masked s'
  else s'.emit .incomplete .none .none

/-- `step_key` (R125): one more byte of the mask key. -/
def stepKey (b : Byte) (s : State) : State :=
  let c := s.cnt + 1#4
  let s' := { s with maskKey := setKeyByte s.maskKey s.cnt.toNat b, cnt := c }
  if c = 4#4 then headerComplete s.payloadLength s'
  else s'.emit .incomplete .none .none

/-- `step_err` (R128): the byte is discarded and the same error signalled again. -/
def stepErr (s : State) : State := s.emit .protocolError s.errReason .none

end Sys2Proof.Machine
end

