-- ==== Sys2Proof/Machine/Payload.lean ====
section
/-! DEFINITION. The payload step (42_payload_unmask.md R140), the block's only store, and the step of one byte in
every phase (41_header_parse.md R120). -/

namespace Sys2Proof.Machine

/-- `step_pay` without the platform's capacity: unmask the byte, store it at its index, count it, complete the frame
with the last one (R140). The store ends the validity window of the frame before; the completing step opens this frame's
(20_memory.md R72). -/
def storePayload (b : Byte) (s : State) : State :=
  let i := s.payCnt
  let n := i + 1#64
  let s' := { s.memWrite i (unmask b i.toNat s.maskKey) with
    payCnt := n
    window := if n = s.payloadLength then s.payloadLength else 0#64 }
  if n = s.payloadLength then frameComplete s'
  else s'.emit .incomplete .none .none

/-- `step_pay` (R140); a frame longer than a finite PMAX is refused at its first payload byte, before it writes
anything (20_memory.md R66, log entry 5). -/
def stepPay (b : Byte) (s : State) : Outcome :=
  if exceedsPmax s then .refused .payloadExceedsPmax
  else .next (storePayload b s)

/-- One byte of the frame whose byte 0 is `h` (R120): in PH_B0 it is byte 0 itself, later it is the operand byte on the
input port. The registers are read where R121 to R128 read them. -/
def frameByte (h : ByteZero) (s : State) : Outcome :=
  let s := s.beginStep
  match s.phase with
  | .b0 => .next (stepB0 h s)
  | .b1 => .next (stepB1 s.pins.inByte s)
  | .ext => .next (stepExt s.pins.inByte s)
  | .key => .next (stepKey s.pins.inByte s)
  | .pay => stepPay s.pins.inByte s
  | .err => .next (stepErr s)

end Sys2Proof.Machine
end

