-- ==== Sys2Proof/Machine/ControlFrames.lean ====
section
/-! DEFINITION. The meanings of the three control frames (43_frame_types.md R154 to R156, table R158): one byte of the frame in
each step. FIN = 1 and a length of at most 125 are checked when the length is known (R126); completion carries the
type's control action (R150). -/

namespace Sys2Proof.Machine

/-- CLOSE, opcode 0x8 (R154): a byte of a Close frame; completes with ACT_CLOSE. The payload is opaque and no Close is
remembered: the next byte is byte 0 of a new frame. -/
def execClose (fin rsv1 rsv2 rsv3 : Bool) (s : State) : Outcome :=
  frameByte ⟨fin, rsv1, rsv2, rsv3, registryOpcode .close⟩ s

/-- PING, opcode 0x9 (R155): a byte of a Ping frame; completes with ACT_PING. Nothing is answered. -/
def execPing (fin rsv1 rsv2 rsv3 : Bool) (s : State) : Outcome :=
  frameByte ⟨fin, rsv1, rsv2, rsv3, registryOpcode .ping⟩ s

/-- PONG, opcode 0xA (R156): a byte of a Pong frame; completes with ACT_PONG. -/
def execPong (fin rsv1 rsv2 rsv3 : Bool) (s : State) : Outcome :=
  frameByte ⟨fin, rsv1, rsv2, rsv3, registryOpcode .pong⟩ s

end Sys2Proof.Machine
end

