-- ==== Sys2Proof/Machine/DataFrames.lean ====
section
/-! DEFINITION. The meanings of the three data frames (43_frame_types.md R151 to R153, table R158): one byte of the frame in each
step. No control-frame check applies to them and their control action is ACT_NONE. -/

namespace Sys2Proof.Machine

/-- CONT, opcode 0x0 (R151): a byte of a Continuation frame. Whether a message is in progress is not checked. -/
def execCont (fin rsv1 rsv2 rsv3 : Bool) (s : State) : Outcome :=
  frameByte ⟨fin, rsv1, rsv2, rsv3, registryOpcode .cont⟩ s

/-- TEXT, opcode 0x1 (R152): a byte of a Text frame. The payload is not inspected. -/
def execText (fin rsv1 rsv2 rsv3 : Bool) (s : State) : Outcome :=
  frameByte ⟨fin, rsv1, rsv2, rsv3, registryOpcode .text⟩ s

/-- BIN, opcode 0x2 (R153): a byte of a Binary frame. -/
def execBin (fin rsv1 rsv2 rsv3 : Bool) (s : State) : Outcome :=
  frameByte ⟨fin, rsv1, rsv2, rsv3, registryOpcode .bin⟩ s

end Sys2Proof.Machine
end

