-- ==== Sys2Proof/Machine/IllegalFrames.lean ====
section
/-! DEFINITION. The meanings of the ten invalid opcodes (30_encoding.md R90): byte 0 takes the protocol error E_OPCODE
(60_exceptions.md R181, R190) in the byte-0 step, and every later byte is discarded in PH_ERR (R128). -/

namespace Sys2Proof.Machine

/-- Opcode 0x3 (R90, R181). -/
def execInvalid3 (fin rsv1 rsv2 rsv3 : Bool) (s : State) : Outcome :=
  frameByte ⟨fin, rsv1, rsv2, rsv3, 0x3#4⟩ s

/-- Opcode 0x4 (R90, R181). -/
def execInvalid4 (fin rsv1 rsv2 rsv3 : Bool) (s : State) : Outcome :=
  frameByte ⟨fin, rsv1, rsv2, rsv3, 0x4#4⟩ s

/-- Opcode 0x5 (R90, R181). -/
def execInvalid5 (fin rsv1 rsv2 rsv3 : Bool) (s : State) : Outcome :=
  frameByte ⟨fin, rsv1, rsv2, rsv3, 0x5#4⟩ s

/-- Opcode 0x6 (R90, R181). -/
def execInvalid6 (fin rsv1 rsv2 rsv3 : Bool) (s : State) : Outcome :=
  frameByte ⟨fin, rsv1, rsv2, rsv3, 0x6#4⟩ s

/-- Opcode 0x7 (R90, R181). -/
def execInvalid7 (fin rsv1 rsv2 rsv3 : Bool) (s : State) : Outcome :=
  frameByte ⟨fin, rsv1, rsv2, rsv3, 0x7#4⟩ s

/-- Opcode 0xB (R90, R181). -/
def execInvalidB (fin rsv1 rsv2 rsv3 : Bool) (s : State) : Outcome :=
  frameByte ⟨fin, rsv1, rsv2, rsv3, 0xB#4⟩ s

/-- Opcode 0xC (R90, R181). -/
def execInvalidC (fin rsv1 rsv2 rsv3 : Bool) (s : State) : Outcome :=
  frameByte ⟨fin, rsv1, rsv2, rsv3, 0xC#4⟩ s

/-- Opcode 0xD (R90, R181). -/
def execInvalidD (fin rsv1 rsv2 rsv3 : Bool) (s : State) : Outcome :=
  frameByte ⟨fin, rsv1, rsv2, rsv3, 0xD#4⟩ s

/-- Opcode 0xE (R90, R181). -/
def execInvalidE (fin rsv1 rsv2 rsv3 : Bool) (s : State) : Outcome :=
  frameByte ⟨fin, rsv1, rsv2, rsv3, 0xE#4⟩ s

/-- Opcode 0xF (R90, R181). -/
def execInvalidF (fin rsv1 rsv2 rsv3 : Bool) (s : State) : Outcome :=
  frameByte ⟨fin, rsv1, rsv2, rsv3, 0xF#4⟩ s

end Sys2Proof.Machine
end

