-- ==== Sys2Proof/Machine/Dispatch.lean ====
section
/-! DEFINITION. One arm per constructor of Instr: one clock cycle's byte of the frame the instruction starts. -/

namespace Sys2Proof.Machine

def exec (i : Instr) (s : State) : Host.Outcome State Fault Refusal :=
  match i with
  | .cont fin rsv1 rsv2 rsv3 => Sys2Proof.Machine.execCont fin rsv1 rsv2 rsv3 s
  | .text fin rsv1 rsv2 rsv3 => Sys2Proof.Machine.execText fin rsv1 rsv2 rsv3 s
  | .bin fin rsv1 rsv2 rsv3 => Sys2Proof.Machine.execBin fin rsv1 rsv2 rsv3 s
  | .close fin rsv1 rsv2 rsv3 => Sys2Proof.Machine.execClose fin rsv1 rsv2 rsv3 s
  | .ping fin rsv1 rsv2 rsv3 => Sys2Proof.Machine.execPing fin rsv1 rsv2 rsv3 s
  | .pong fin rsv1 rsv2 rsv3 => Sys2Proof.Machine.execPong fin rsv1 rsv2 rsv3 s
  | .invalid3 fin rsv1 rsv2 rsv3 => Sys2Proof.Machine.execInvalid3 fin rsv1 rsv2 rsv3 s
  | .invalid4 fin rsv1 rsv2 rsv3 => Sys2Proof.Machine.execInvalid4 fin rsv1 rsv2 rsv3 s
  | .invalid5 fin rsv1 rsv2 rsv3 => Sys2Proof.Machine.execInvalid5 fin rsv1 rsv2 rsv3 s
  | .invalid6 fin rsv1 rsv2 rsv3 => Sys2Proof.Machine.execInvalid6 fin rsv1 rsv2 rsv3 s
  | .invalid7 fin rsv1 rsv2 rsv3 => Sys2Proof.Machine.execInvalid7 fin rsv1 rsv2 rsv3 s
  | .invalidB fin rsv1 rsv2 rsv3 => Sys2Proof.Machine.execInvalidB fin rsv1 rsv2 rsv3 s
  | .invalidC fin rsv1 rsv2 rsv3 => Sys2Proof.Machine.execInvalidC fin rsv1 rsv2 rsv3 s
  | .invalidD fin rsv1 rsv2 rsv3 => Sys2Proof.Machine.execInvalidD fin rsv1 rsv2 rsv3 s
  | .invalidE fin rsv1 rsv2 rsv3 => Sys2Proof.Machine.execInvalidE fin rsv1 rsv2 rsv3 s
  | .invalidF fin rsv1 rsv2 rsv3 => Sys2Proof.Machine.execInvalidF fin rsv1 rsv2 rsv3 s

end Sys2Proof.Machine
end

