-- ==== Sys2Proof/Machine/Step.lean ====
section
/-! DEFINITION. One step of the machine: one clock cycle (10_state.md R42, 00_scope.md R12), and where a program's first
instruction is placed. -/

namespace Sys2Proof.Machine

/-- The cycle whose pins are latched: reset first (60_exceptions.md R192), then a byte, else idle (R42, R210). -/
def clockCycle (s : State) : Outcome :=
  if s.pins.rst then .next (resetCycle s)
  else if s.pins.inValid then exec (instrInFlight s) s
  else .next (idleCycle s)

/-- One clock cycle: the host's next move if there is one, else an idle cycle (log entry 1). -/
def step (s : State) : Host.Outcome State Fault Refusal :=
  match s.pending with
  | [] => clockCycle s.withhold
  | p :: rest => clockCycle (s.latch p rest)

/-- `s` between frames with the bytes of a table word as the next bytes of its input stream (log entry 8). -/
def State.withFetchWord (s : State) (nbits w : Nat) : State :=
  { s with
    phase := .b0
    errReason := .none
    pending := byteCycles (tableBytes nbits w) ++ s.pending }

end Sys2Proof.Machine
end

