-- ==== Sys2Proof/Machine/Observe.lean ====
section
/-! DEFINITION. What the consumer observes: the Frame delivered with FrameComplete (10_state.md R43) and the class of the
state a finite stream ends in (70_reset_and_hazards.md R221). -/

namespace Sys2Proof.Machine

/-- The Frame observation (R43). -/
structure FrameObs where
  fin           : Bool
  rsv1          : Bool
  rsv2          : Bool
  rsv3          : Bool
  frameType     : FrameType
  masked        : Bool
  maskKey       : Option MaskKey
  payloadLength : Word64
  payload       : List Byte
deriving DecidableEq, Repr

/-- PMEM[a], ..., PMEM[a + n - 1], if every one of them was written. -/
def readPayload (m : Memory) (a : Nat) : Nat → Option (List Byte)
  | 0 => some []
  | n + 1 =>
    match Memory.read m a with
    | none => none
    | some b => (readPayload m (a + 1) n).map (b :: ·)

/-- The frame field registers and PMEM as the record of R43. -/
def frameView (s : State) : Option FrameObs :=
  match registryType s.opcode, readPayload s.pmem 0 s.payloadLength.toNat with
  | some t, some p =>
    some {
      fin := s.fin, rsv1 := s.rsv1, rsv2 := s.rsv2, rsv3 := s.rsv3, frameType := t, masked := s.masked
      maskKey := if s.masked then some s.maskKey else none
      payloadLength := s.payloadLength, payload := p }
  | _, _ => none

/-- The Frame a cycle delivered: R43's record in a step whose signal is FrameComplete, no Frame in any other. -/
def deliveredFrame (s : State) : Option FrameObs :=
  match s.out with
  | .consumed .frameComplete _ _ _ => frameView s
  | .consumed .incomplete _ _ _ => none
  | .consumed .protocolError _ _ _ => none
  | .idle => none
  | .resetCycle => none

/-- The classes of the end of a run (R221). -/
inductive EndOfRun
  | noPartialFrame | partialFrame | faulted
deriving DecidableEq, Repr

/-- The class of the state a finite stream ends in (R221). -/
def endOfRun (s : State) : EndOfRun :=
  match s.phase with
  | .b0 => .noPartialFrame
  | .b1 | .ext | .key | .pay => .partialFrame
  | .err => .faulted

end Sys2Proof.Machine
end

