-- ==== Sys2Proof/Machine/Collaborators.lean ====
section
/-! DEFINITION. The consumer beside the block, at the interface 48_collaborators.md gives it: the Message Reassembler
(R161, R162, R164), its text check (R163), the ends of a connection (R168, R170) and the callback surface (R169). None of it is state or behaviour of the block (R160); `step` calls
nothing here. -/

namespace Sys2Proof.Machine

/-- `message_type`, fixed by the first, non-continuation frame (R161). -/
inductive MessageType
  | text | binary
deriving DecidableEq, Repr

/-- A message: its type and the concatenated payloads (R161). -/
structure Message where
  messageType : MessageType
  payload     : List Byte
deriving DecidableEq, Repr

/-- The reassembler's answer to a completed data frame (R162). -/
inductive MessageSignal
  | pending
  | complete (m : Message)
  | error
deriving DecidableEq, Repr

/-- A message goes on, or completes, with one more frame accepted: it completes on the first frame with FIN = 1. -/
def acceptInto (m : Message) (fin : Bool) : MessageSignal × Option Message :=
  if fin then (.complete m, none) else (.pending, some m)

/-- `accept(frame)` over the in-progress message (R162's transition table). An Error is fatal and its partial message is
never delivered, so none is left (R170). Control frames are not passed to it (R164) and leave the message as it is. -/
def accept (cur : Option Message) (f : FrameObs) : MessageSignal × Option Message :=
  match f.frameType, cur with
  | .text, none => acceptInto ⟨.text, f.payload⟩ f.fin
  | .bin, none => acceptInto ⟨.binary, f.payload⟩ f.fin
  | .cont, some m => acceptInto ⟨m.messageType, m.payload ++ f.payload⟩ f.fin
  | .cont, none => (.error, none)
  | .text, some _ => (.error, none)
  | .bin, some _ => (.error, none)
  | .close, _ => (.pending, cur)
  | .ping, _ => (.pending, cur)
  | .pong, _ => (.pending, cur)

/-- Decodable as text: every byte a single ASCII code unit, the source's reading (R163). -/
def decodableText (payload : List Byte) : Bool := payload.all fun b => b < 0x80#8

/-- The validation a completed message needs: only a Text message's payload is read as text (R163). -/
def Message.decodable (m : Message) : Bool :=
  match m.messageType with
  | .text => decodableText m.payload
  | .binary => true

/-- Why a connection ends (R168, R170, R180 a and b). -/
inductive StopReason
  | receivedClose
  | localClose
  | readError
  | protocolError (reason : ErrReason)
  | outOfSequence
deriving DecidableEq, Repr

/-- The application callbacks (R169), and the end of the connection for any other reason than a received Close: the read
loop stops and the stream is closed, after a protocol error with a best-effort Close frame first (R168, R170). -/
inductive Callback
  | onMessage (m : Message)
  | onClose
  | onPing (payload : List Byte)
  | onPong (payload : List Byte)
  | teardown (why : StopReason)
deriving DecidableEq, Repr

/-- What the caller adds for a Text message that is not decodable: the policy R163 leaves to it, a parameter of the
surroundings (93_implementation_defined.md U5, U7). -/
abbrev TextPolicy := Message → List Callback

/-- A completed message goes to the application with its raw payload, never dropped; only then comes the policy (R163). -/
def deliverMessage (policy : TextPolicy) (m : Message) : List Callback :=
  .onMessage m :: if m.decodable then [] else policy m

/-- The end of a connection: its callback, and no message in progress: "in-flight partial frames/messages are discarded,
not delivered" (R168, R170). -/
def endConnection (why : StopReason) : List Callback × Option Message :=
  match why with
  | .receivedClose => ([.onClose], none)
  | .localClose => ([.teardown .localClose], none)
  | .readError => ([.teardown .readError], none)
  | .protocolError reason => ([.teardown (.protocolError reason)], none)
  | .outOfSequence => ([.teardown .outOfSequence], none)

/-- A completed data frame goes to the reassembler (R164, R169), whose Error is a fatal protocol error (R162, R180 b).
DESIGN CHOICE, log entry 15: no closed state is kept, so a whole message fed after an Error, against the host's duty to tear
down, would still be delivered. -/
def consumeData (policy : TextPolicy) (cur : Option Message) (f : FrameObs) : List Callback × Option Message :=
  match accept cur f with
  | (.pending, m) => ([], m)
  | (.complete msg, m) => (deliverMessage policy msg, m)
  | (.error, _) => endConnection .outOfSequence

/-- What a clock cycle's outputs make the consumer do, and the in-progress message after it (R164, R169, R170). A reset
cycle starts a new connection's decoding and leaves no message (R168, R210, R211, log entry 14). What is fed after the end
of a connection is consumed as if it went on, with no message in progress (log entry 15). -/
def consume (policy : TextPolicy) (cur : Option Message) (s : State) : List Callback × Option Message :=
  match s.out with
  | .consumed .protocolError reason _ _ => endConnection (.protocolError reason)
  | .consumed .frameComplete _ .close _ => endConnection .receivedClose
  | .consumed .frameComplete _ .ping _ => ((frameView s).toList.map fun f => .onPing f.payload, cur)
  | .consumed .frameComplete _ .pong _ => ((frameView s).toList.map fun f => .onPong f.payload, cur)
  | .consumed .frameComplete _ .none _ =>
    match frameView s with
    | none => ([], cur)
    | some f => consumeData policy cur f
  | .consumed .incomplete _ _ _ => ([], cur)
  | .idle => ([], cur)
  | .resetCycle => ([], none)

end Sys2Proof.Machine
end

