-- ==== Sys2Proof/Machine/FrameMeaning.lean ====
section
/-! DEFINITION. A whole frame's meaning, said on the frame and not on its bytes: which protocol error it raises first
(60_exceptions.md R187, R189, 43_frame_types.md R158) and what it delivers when it raises none (R151 to R156, R43). The
byte steps are the machine; statements say that they agree with this. -/

namespace Sys2Proof.Machine

/-- The error of byte 0 (R181, R182): the opcode before the reserved bits. -/
def startViolation (i : Instr) : Option ErrReason :=
  if registryValid i.opcode = false then some .opcode
  else if i.rsv1 ∨ i.rsv2 ∨ i.rsv3 then some .rsv
  else none

/-- The error of the operands (R183 to R185): MASK, then FIN of a control frame, then its length. -/
def operandViolation (maskReq : Bool) (i : Instr) (o : Operands) : Option ErrReason :=
  if o.key.isSome ≠ maskReq then some .mask
  else if isControlOp i.opcode ∧ i.fin = false then some .ctrlFrag
  else if isControlOp i.opcode ∧ o.payload.length > 125 then some .ctrlLen
  else none

/-- The first violation of a frame in the priority of R187; `none` is a frame the block accepts (R158). -/
def firstViolation (maskReq : Bool) (f : Frame) : Option ErrReason :=
  match startViolation f.start with
  | some r => some r
  | none =>
    match f.operands with
    | none => none
    | some o => operandViolation maskReq f.start o

/-- The frame offset at which an error is raised (R189): 0, 1, or the last byte of the length field. -/
def violationOffset (f : Frame) (r : ErrReason) : Nat :=
  match r, f.operands with
  | .ctrlFrag, some o => 1 + o.form.extBytes
  | .ctrlLen, some o => 1 + o.form.extBytes
  | .mask, _ => 1
  | _, _ => 0

/-- The Frame an accepted frame of type `t` delivers (R43, R151 to R156). -/
def frameObsOf (t : FrameType) (i : Instr) (o : Operands) : FrameObs where
  fin := i.fin
  rsv1 := false
  rsv2 := false
  rsv3 := false
  frameType := t
  masked := o.key.isSome
  maskKey := o.key
  payloadLength := BitVec.ofNat 64 o.payload.length
  payload := o.payload

end Sys2Proof.Machine
end

