-- ==== Sys2Proof/Safety.lean ====
section
/-! DEFINITION. The invariants of reachable states (10_state.md R46), in the terms the statements use. Part (i) of R46
speaks of the bytes a frame received, which no register keeps, so it is stated of whole frames, not here. -/

namespace Sys2Proof.Machine

/-- R46 (a): the sticky error is PHASE and ERR_REASON together. -/
def InvError (s : State) : Prop := s.phase = .err ↔ s.errReason ≠ .none

/-- R46 (b): inside a frame the opcode is valid and the reserved bits are 0. -/
def InvStart (s : State) : Prop :=
  s.phase = .b1 ∨ s.phase = .ext ∨ s.phase = .key ∨ s.phase = .pay →
    registryValid s.opcode = true ∧ s.rsv1 = false ∧ s.rsv2 = false ∧ s.rsv3 = false

/-- R46 (c): past byte 1, MASKED is the policy's. -/
def InvMask (s : State) : Prop :=
  s.phase = .ext ∨ s.phase = .key ∨ s.phase = .pay → s.masked = s.maskReq

/-- R46 (d): the partial length of an extended form. -/
def InvExt (s : State) : Prop :=
  s.phase = .ext →
    (s.len7 = 126#7 ∧ s.cnt < 2#4 ∨ s.len7 = 127#7 ∧ s.cnt < 8#4) ∧
      s.payloadLength.toNat < 2 ^ (8 * s.cnt.toNat)

/-- R46 (e), the part a state shows: in KEY the frame is masked and the key bytes not yet received are 0. -/
def InvKey (s : State) : Prop :=
  s.phase = .key →
    s.masked = true ∧ s.cnt < 4#4 ∧ ∀ k, k < 4 → s.cnt.toNat ≤ k → keyByte s.maskKey k = 0x00#8

/-- R46 (f): in PAY a payload byte is missing, and an absent key is zero. -/
def InvPay (s : State) : Prop :=
  s.phase = .pay →
    1#64 ≤ s.payloadLength ∧ s.payCnt < s.payloadLength ∧ (s.masked = false → s.maskKey = zeroKey)

/-- R46 (g): a control frame past its length is unfragmented and short. -/
def InvControl (s : State) : Prop :=
  (s.phase = .key ∨ s.phase = .pay) ∧ isControlOp s.opcode = true → s.fin = true ∧ s.payloadLength ≤ 125#64

/-- R46 (h): the length agrees with its form. -/
def InvLength (s : State) : Prop :=
  (s.len7 ≤ 125#7 ∧ (s.phase = .key ∨ s.phase = .pay) → s.payloadLength = literalLength s.len7) ∧
    (s.len7 = 126#7 → s.payloadLength ≤ 65535#64)

/-- What R28 and R121 leave until the operand bytes arrive: nothing of an earlier frame. -/
def InvCleared (s : State) : Prop :=
  (s.phase = .b1 → s.masked = false ∧ s.len7 = 0#7 ∧ s.payloadLength = 0#64) ∧
    (s.phase = .b1 ∨ s.phase = .ext → s.maskKey = zeroKey)

/-- The payload bytes counted so far are in PMEM (R70): all of a completed frame's, and in PAY those before PAY_CNT. -/
def InvStored (s : State) : Prop :=
  (s.phase = .pay → ∀ j, j < s.payCnt.toNat → (Memory.read s.pmem j).isSome) ∧
    (s.phase = .b0 → ∀ j, j < s.payloadLength.toNat → (Memory.read s.pmem j).isSome)

/-- The validity window of R72: every cell in it is written; between frames it is the shown frame's, if that frame has a
payload; after the first payload byte of a frame there is none. -/
def InvWindow (s : State) : Prop :=
  (∀ j, j < s.window.toNat → (Memory.read s.pmem j).isSome) ∧
    (s.phase = .b0 → s.payloadLength ≠ 0#64 → s.window = s.payloadLength) ∧
    (s.phase = .pay → s.payCnt ≠ 0#64 → s.window = 0#64)

/-- The invariant of the block: R46 (a) to (h), with what keeps it, and PMEM's canonical form. -/
structure Inv (s : State) : Prop where
  error   : InvError s
  start   : InvStart s
  mask    : InvMask s
  ext     : InvExt s
  key     : InvKey s
  pay     : InvPay s
  control : InvControl s
  length  : InvLength s
  cleared : InvCleared s
  stored  : InvStored s
  window  : InvWindow s
  memory  : Memory.wf s.pmem = true

end Sys2Proof.Machine
end

