-- ==== Sys2Proof/Certificates/Slice0/Obligations.lean ====
section
/-! DEFINITION. The statements, from the numbered rules of spec/. Next states are written out as record updates, so each
says what changes and that every other field (every register, every PMEM cell, the platform's PMAX) stays. Many rules are
the spec's own decisions (92_eei_decisions.md, log entry 9); the entries of OBLIGATIONS.json name the decision. -/

open Sys2Proof Sys2Proof.Machine

/-! ## Encoding -/

/-- R81, R89, R90: words written out from the encoding, byte 0 first, and table words with byte 0 in bits 15 to 8. -/
def Obligations.OpcodeWordsDecode : Prop :=
  decodeByte 0x80#8 = .cont true false false false ∧ decodeByte 0x01#8 = .text false false false false ∧
    decodeByte 0x82#8 = .bin true false false false ∧ decodeByte 0x88#8 = .close true false false false ∧
    decodeByte 0x09#8 = .ping false false false false ∧ decodeByte 0x8A#8 = .pong true false false false ∧
    decodeByte 0xC1#8 = .text true true false false ∧ decodeByte 0xA1#8 = .text true false true false ∧
    decodeByte 0x91#8 = .text true false false true ∧ decodeByte 0x47#8 = .invalid7 false true false false ∧
    decodeByte 0xFD#8 = .invalidD true true true true ∧
    decodeTableWord 16 0x8185 = some (.text true false false false) ∧
    decodeTableWord 16 0x0D00 = some (.invalidD false false false false)

/-- R81: an instruction's word decodes to it, with every operand bit, and every byte is some instruction's word. -/
def Obligations.InstructionEncodingRoundTrips : Prop :=
  (∀ (i : Instr) (rest : List Byte), decode (encode i ++ rest) = .ok (i, rest)) ∧
    ∀ b : Byte, encodeByte (decodeByte b) = b

/-- R89: over every 16-bit start word, the decoded instruction is the row whose match equals `H & 0x0F00`; the other
twelve bits take no part in selecting it. -/
def Obligations.StartWordSelectsByOpcodeBits : Prop :=
  ∀ w : Nat, w < 65536 → ∃ i, decodeTableWord 16 w = some i ∧ i.opcode.toNat * 256 = w &&& 0x0F00

/-- R80 to R87: decoding an encoded well-formed frame gives it back with the rest of the stream: every length form,
key and payload. -/
def Obligations.FrameEncodingRoundTrips : Prop :=
  ∀ (f : Frame) (rest : List Byte), f.wf = true → decodeFrame (encodeFrame f ++ rest) = .ok (f, rest)

/-- R80 to R87: what decodes as a frame is well formed and is that frame's encoding, so a byte string has one reading. -/
def Obligations.DecodedFrameIsItsEncoding : Prop :=
  ∀ (bs : List Byte) (f : Frame) (rest : List Byte), decodeFrame bs = .ok (f, rest) →
    f.wf = true ∧ bs = encodeFrame f ++ rest

/-- R87: the six header shapes: the bytes of a frame are the header size of its shape and the payload. -/
def Obligations.HeaderShapeSizes : Prop :=
  ∀ (i : Instr) (o : Operands),
    (encodeFrame ⟨i, some o⟩).length =
      (match o.form, o.key with
        | .literal, none => 2
        | .literal, some _ => 6
        | .ext16, none => 4
        | .ext16, some _ => 8
        | .ext64, none => 10
        | .ext64, some _ => 14) + o.payload.length

/-- R98: the minimal form expresses the length, and no form with fewer extended-length bytes does. -/
def Obligations.MinimalFormIsMinimal : Prop :=
  ∀ n : Nat, n < 2 ^ 64 →
    n ≤ (minimalForm n).maxLength ∧ ∀ form : LenForm, n ≤ form.maxLength → (minimalForm n).extBytes ≤ form.extBytes

/-! ## The registry -/

/-- R110, R115: the registry over all sixteen opcodes, and `registry_valid` as a function of the bits. -/
def Obligations.RegistryTable : Prop :=
  (registryType 0x0#4 = some .cont ∧ registryType 0x1#4 = some .text ∧ registryType 0x2#4 = some .bin ∧
    registryType 0x8#4 = some .close ∧ registryType 0x9#4 = some .ping ∧ registryType 0xA#4 = some .pong) ∧
    (∀ op ∈ [0x3#4, 0x4#4, 0x5#4, 0x6#4, 0x7#4, 0xB#4, 0xC#4, 0xD#4, 0xE#4, 0xF#4],
      registryValid op = false ∧ registryType op = none) ∧
    (∀ op : BitVec 4, registryValid op = (!op.getLsbD 2 && op.extractLsb' 0 2 != 0b11#2)) ∧
    (isControl .cont = false ∧ isControl .text = false ∧ isControl .bin = false ∧
      isControl .close = true ∧ isControl .ping = true ∧ isControl .pong = true) ∧
    (ftypeCode .cont = 0b000#3 ∧ ftypeCode .text = 0b001#3 ∧ ftypeCode .bin = 0b010#3 ∧
      ftypeCode .close = 0b100#3 ∧ ftypeCode .ping = 0b101#3 ∧ ftypeCode .pong = 0b110#3) ∧
    (∀ t, ftypeCode t ≠ 0b011#3 ∧ ftypeCode t ≠ 0b111#3) ∧
    (registryOpcode .cont = 0x0#4 ∧ registryOpcode .text = 0x1#4 ∧ registryOpcode .bin = 0x2#4 ∧
      registryOpcode .close = 0x8#4 ∧ registryOpcode .ping = 0x9#4 ∧ registryOpcode .pong = 0xA#4)

/-- R112: the reverse map, and that the two maps are inverse to each other, so each is injective on its domain. -/
def Obligations.RegistryMapsAreInverse : Prop :=
  (registryOpcode .cont = 0x0#4 ∧ registryOpcode .text = 0x1#4 ∧ registryOpcode .bin = 0x2#4 ∧
      registryOpcode .close = 0x8#4 ∧ registryOpcode .ping = 0x9#4 ∧ registryOpcode .pong = 0xA#4) ∧
    (∀ t : FrameType, registryType (registryOpcode t) = some t) ∧
    (∀ op : BitVec 4, registryValid op = true → ∃ t, registryType op = some t ∧ registryOpcode t = op) ∧
    (∀ t t' : FrameType, registryOpcode t = registryOpcode t' → t = t') ∧
    ∀ op op' : BitVec 4, registryValid op = true → registryValid op' = true →
      registryType op = registryType op' → op = op'

/-! ## Clock cycles -/

/-- A clock cycle with a byte runs exec of one instruction (R42, R12). WHICH instruction is the model's choice (log entry
11): in PH_B0 the one the byte itself decodes to, later the one whose byte 0 the frame field registers hold. So is what the
step adds (log entry 1): the cycle's pins are latched and the cycle is dropped from `pending`. -/
def Obligations.StepRunsDecodedInstruction : Prop :=
  ∀ (s : State) (p : Pins) (rest : List Pins) (i : Instr), s.pending = p :: rest → p.rst = false → p.inValid = true →
    (s.phase = .b0 → (∃ bs, decode (p.inByte :: bs) = .ok (i, bs)) →
      step s = exec i { s with pins := p, pending := rest }) ∧
    (s.phase ≠ .b0 → i.opcode = s.opcode → i.fin = s.fin → i.rsv1 = s.rsv1 → i.rsv2 = s.rsv2 → i.rsv3 = s.rsv3 →
      step s = exec i { s with pins := p, pending := rest })

/-- R210, R44: a cycle with `rst` = 1 gives every register its reset value, samples the policy pin, changes no PMEM
cell, consumes no byte and produces no signal; the ports then show an all-zero Continuation frame. That PMEM's validity
window stays is the model's reading of R72 (log entry 13), and that the cycle is dropped from `pending` is the model's
input (log entry 1). -/
def Obligations.ResetCycleSetsEveryRegister : Prop :=
  ∀ (s : State) (p : Pins) (rest : List Pins), s.pending = p :: rest → p.rst = true →
    ∃ t, step s = .next t ∧
      t.phase = .b0 ∧ t.cnt = 0#4 ∧ t.payCnt = 0#64 ∧ t.fin = false ∧ t.rsv1 = false ∧ t.rsv2 = false ∧
      t.rsv3 = false ∧ t.opcode = 0x0#4 ∧ t.masked = false ∧ t.len7 = 0#7 ∧ t.payloadLength = 0#64 ∧
      t.maskKey = ⟨0x00#8, 0x00#8, 0x00#8, 0x00#8⟩ ∧ t.errReason = .none ∧ t.maskReq = p.cfgMaskRequired ∧
      t.pmem = s.pmem ∧ t.window = s.window ∧ t.pmax = s.pmax ∧ t.pending = rest ∧
      (ports t).sigValid = false ∧ (ports t).pwEn = false ∧
      (ports t).fFtypeValid = true ∧ (ports t).fFtype = 0b000#3

/-- R42, R222: with `in_valid` = 0 and `rst` = 0 no state changes and the outputs read 0; so too with no cycle left, which
is the model's choice (log entry 1). -/
def Obligations.IdleCycleChangesNothing : Prop :=
  ∀ s : State,
    (∀ p rest, s.pending = p :: rest → p.rst = false → p.inValid = false →
      step s = .next { s with pins := p, pending := rest, out := .idle }) ∧
    (s.pending = [] → ∃ t, step s = .next t ∧ t = { s with pins := t.pins, out := .idle }) ∧
    (s.out = .idle → (ports s).sigValid = false ∧ (ports s).pwEn = false ∧ (ports s).sig = some 0#2 ∧
      (ports s).errReason = some 0#3 ∧ (ports s).ctlAction = some 0#2)

/-- R217, R40: CFG.MASK_REQ is the pin's value after a reset cycle, and no other step changes it, whatever the pin. -/
def Obligations.PolicyIsSampledOnlyByReset : Prop :=
  ∀ (s t : State), step s = .next t →
    (t.pins.rst = true → t.maskReq = t.pins.cfgMaskRequired) ∧ (t.pins.rst = false → t.maskReq = s.maskReq) ∧
    t.pmax = s.pmax

/-- R120 ("The function is total"), R66, R186: a step always has a next state, but for a payload byte of a frame longer
than a finite PMAX, which is refused (at which byte is the model's choice, log entry 5); no step faults. -/
def Obligations.EveryStepAnswers : Prop :=
  ∀ s : State, (∃ t, step s = .next t) ∨
    (step s = .refused .payloadExceedsPmax ∧ s.phase = .pay ∧ ∃ n, s.pmax = some n ∧ n < s.payloadLength.toNat)

/-! ## Byte 0 -/

/-- R121: CONT, TEXT, BIN, CLOSE, PING and PONG with the reserved bits 0 start a new, empty frame, FIN unchecked. -/
def Obligations.ByteZeroStartsFrame : Prop :=
  ∀ (i : Instr) (s : State), s.phase = .b0 → registryValid i.opcode = true →
    i.rsv1 = false → i.rsv2 = false → i.rsv3 = false →
    exec i s = .next { s with
      phase := .b1, fin := i.fin, rsv1 := false, rsv2 := false, rsv3 := false, opcode := i.opcode
      masked := false, len7 := 0#7, payloadLength := 0#64, maskKey := ⟨0x00#8, 0x00#8, 0x00#8, 0x00#8⟩
      cnt := 0#4, payCnt := 0#64, out := .consumed .incomplete .none .none none }

/-- R88, R182: the same six types with a reserved bit set raise E_RSV in the byte-0 step, the bits recorded. -/
def Obligations.ReservedBitRaisesRsv : Prop :=
  ∀ (i : Instr) (s : State), s.phase = .b0 → registryValid i.opcode = true →
    (i.rsv1 = true ∨ i.rsv2 = true ∨ i.rsv3 = true) →
    exec i s = .next { s with
      phase := .err, errReason := .rsv
      fin := i.fin, rsv1 := i.rsv1, rsv2 := i.rsv2, rsv3 := i.rsv3, opcode := i.opcode
      masked := false, len7 := 0#7, payloadLength := 0#64, maskKey := ⟨0x00#8, 0x00#8, 0x00#8, 0x00#8⟩
      cnt := 0#4, payCnt := 0#64, out := .consumed .protocolError .rsv .none none } ∧
    ErrReason.rsv.code = 2#3

/-- R90, R181: INVALID_3 to INVALID_7 and INVALID_B to INVALID_F raise E_OPCODE in the byte-0 step whatever the reserved
bits, the fields of the offending byte recorded. -/
def Obligations.InvalidOpcodeRaisesOpcode : Prop :=
  ∀ (i : Instr) (s : State), s.phase = .b0 →
    i.opcode ∈ [0x3#4, 0x4#4, 0x5#4, 0x6#4, 0x7#4, 0xB#4, 0xC#4, 0xD#4, 0xE#4, 0xF#4] →
    exec i s = .next { s with
      phase := .err, errReason := .opcode
      fin := i.fin, rsv1 := i.rsv1, rsv2 := i.rsv2, rsv3 := i.rsv3, opcode := i.opcode
      masked := false, len7 := 0#7, payloadLength := 0#64, maskKey := ⟨0x00#8, 0x00#8, 0x00#8, 0x00#8⟩
      cnt := 0#4, payCnt := 0#64, out := .consumed .protocolError .opcode .none none } ∧
    ErrReason.opcode.code = 1#3

/-! ## Byte 1 and the length -/

/-- R91, R183: a MASK bit other than CFG.MASK_REQ raises E_MASK in the byte-1 step, for every length indicator; the
fields of byte 1 are recorded, and PAYLOAD_LENGTH, which the step leaves, is 0 in every state the invariant admits. -/
def Obligations.MaskMismatchRaisesMask : Prop :=
  ∀ (i : Instr) (s : State), s.phase = .b1 → s.pins.inByte.getLsbD 7 ≠ s.maskReq →
    exec i s = .next { s with
      phase := .err, errReason := .mask
      masked := s.pins.inByte.getLsbD 7, len7 := s.pins.inByte.extractLsb' 0 7
      out := .consumed .protocolError .mask .none none } ∧
    (Inv s → s.payloadLength = 0#64) ∧ ErrReason.mask.code = 3#3

/-- R123: an indicator of 126 or 127 with the right MASK bit leads to the extended length, PAYLOAD_LENGTH as it was. -/
def Obligations.ByteOneAnnouncesExtendedLength : Prop :=
  ∀ (i : Instr) (s : State), s.phase = .b1 → s.pins.inByte.getLsbD 7 = s.maskReq →
    (s.pins.inByte.extractLsb' 0 7 = 126#7 ∨ s.pins.inByte.extractLsb' 0 7 = 127#7) →
    exec i s = .next { s with
      phase := .ext, cnt := 0#4
      masked := s.pins.inByte.getLsbD 7, len7 := s.pins.inByte.extractLsb' 0 7
      out := .consumed .incomplete .none .none none }

/-- R124: an extended-length byte that is not the last shifts in and is counted; the phase stays. -/
def Obligations.ExtendedByteShiftsIn : Prop :=
  ∀ (i : Instr) (s : State), s.phase = .ext → s.cnt + 1#4 ≠ (if s.len7 = 126#7 then 2#4 else 8#4) →
    exec i s = .next { s with
      payloadLength := (s.payloadLength <<< 8) ||| s.pins.inByte.setWidth 64, cnt := s.cnt + 1#4
      out := .consumed .incomplete .none .none none }

/-- R184: a fragmented CLOSE, PING or PONG raises E_CTRL_FRAG in the step that makes its length known: byte 1 for a
literal length, the second extended byte when LEN7 = 126, the eighth when LEN7 = 127. -/
def Obligations.FragmentedControlRaisesFrag : Prop :=
  ∀ (i : Instr) (t : FrameType) (s : State), i.opcode = s.opcode → registryType s.opcode = some t →
    isControl t = true → s.fin = false →
    (s.phase = .b1 → s.pins.inByte.getLsbD 7 = s.maskReq → s.pins.inByte.extractLsb' 0 7 ≤ 125#7 →
      exec i s = .next { s with
        phase := .err, errReason := .ctrlFrag
        masked := s.pins.inByte.getLsbD 7, len7 := s.pins.inByte.extractLsb' 0 7
        payloadLength := (s.pins.inByte.extractLsb' 0 7).setWidth 64
        out := .consumed .protocolError .ctrlFrag .none none }) ∧
    (s.phase = .ext → s.cnt + 1#4 = (if s.len7 = 126#7 then 2#4 else 8#4) →
      exec i s = .next { s with
        phase := .err, errReason := .ctrlFrag
        payloadLength := (s.payloadLength <<< 8) ||| s.pins.inByte.setWidth 64, cnt := s.cnt + 1#4
        out := .consumed .protocolError .ctrlFrag .none none }) ∧
    ErrReason.ctrlFrag.code = 4#3

/-- R185: an unfragmented CLOSE, PING or PONG whose extended length is above 125 raises E_CTRL_LEN in the step of the last
length byte, the offending length recorded. The test is on the value, whatever LEN7. -/
def Obligations.OverlongControlRaisesLen : Prop :=
  ∀ (i : Instr) (t : FrameType) (s : State), i.opcode = s.opcode → registryType s.opcode = some t →
    isControl t = true → s.fin = true → s.phase = .ext → s.cnt + 1#4 = (if s.len7 = 126#7 then 2#4 else 8#4) →
    (s.payloadLength <<< 8) ||| s.pins.inByte.setWidth 64 > 125#64 →
    exec i s = .next { s with
      phase := .err, errReason := .ctrlLen
      payloadLength := (s.payloadLength <<< 8) ||| s.pins.inByte.setWidth 64, cnt := s.cnt + 1#4
      out := .consumed .protocolError .ctrlLen .none none } ∧
    ErrReason.ctrlLen.code = 5#3

/-- R126, R158: with its length known and no control-frame rule violated, a masked frame goes on to its key. CONT, TEXT
and BIN with any FIN and any length; CLOSE, PING and PONG with FIN = 1 and a length of at most 125, in any length form. -/
def Obligations.KnownLengthMaskedGoesToKey : Prop :=
  ∀ (i : Instr) (t : FrameType) (s : State), i.opcode = s.opcode → registryType s.opcode = some t →
    (s.phase = .b1 → s.pins.inByte.getLsbD 7 = true → s.maskReq = true → s.pins.inByte.extractLsb' 0 7 ≤ 125#7 →
      (isControl t = true → s.fin = true) →
      exec i s = .next { s with
        phase := .key, cnt := 0#4, masked := true, len7 := s.pins.inByte.extractLsb' 0 7
        payloadLength := (s.pins.inByte.extractLsb' 0 7).setWidth 64
        out := .consumed .incomplete .none .none none }) ∧
    (s.phase = .ext → s.cnt + 1#4 = (if s.len7 = 126#7 then 2#4 else 8#4) → s.masked = true →
      (isControl t = true → s.fin = true ∧ (s.payloadLength <<< 8) ||| s.pins.inByte.setWidth 64 ≤ 125#64) →
      exec i s = .next { s with
        phase := .key, cnt := 0#4, payloadLength := (s.payloadLength <<< 8) ||| s.pins.inByte.setWidth 64
        out := .consumed .incomplete .none .none none })

/-- R126, R127: the same for an unmasked frame of a length that is not 0: it goes on to its payload. -/
def Obligations.KnownLengthUnmaskedGoesToPayload : Prop :=
  ∀ (i : Instr) (t : FrameType) (s : State), i.opcode = s.opcode → registryType s.opcode = some t →
    (s.phase = .b1 → s.pins.inByte.getLsbD 7 = false → s.maskReq = false → s.pins.inByte.extractLsb' 0 7 ≤ 125#7 →
      s.pins.inByte.extractLsb' 0 7 ≠ 0#7 → (isControl t = true → s.fin = true) →
      exec i s = .next { s with
        phase := .pay, payCnt := 0#64, masked := false, len7 := s.pins.inByte.extractLsb' 0 7
        payloadLength := (s.pins.inByte.extractLsb' 0 7).setWidth 64
        out := .consumed .incomplete .none .none none }) ∧
    (s.phase = .ext → s.cnt + 1#4 = (if s.len7 = 126#7 then 2#4 else 8#4) → s.masked = false →
      (s.payloadLength <<< 8) ||| s.pins.inByte.setWidth 64 ≠ 0#64 →
      (isControl t = true → s.fin = true ∧ (s.payloadLength <<< 8) ||| s.pins.inByte.setWidth 64 ≤ 125#64) →
      exec i s = .next { s with
        phase := .pay, payCnt := 0#64, cnt := s.cnt + 1#4
        payloadLength := (s.payloadLength <<< 8) ||| s.pins.inByte.setWidth 64
        out := .consumed .incomplete .none .none none })

/-! ## Completion -/

/-- R127, R150: an unmasked CONT, TEXT, BIN, CLOSE, PING or PONG frame of length 0 completes in the step of its last
length byte, with its type's control action and no store. -/
def Obligations.EmptyUnmaskedFrameCompletes : Prop :=
  ∀ (i : Instr) (t : FrameType) (s : State), i.opcode = s.opcode → registryType s.opcode = some t →
    (isControl t = true → s.fin = true) →
    (s.phase = .b1 → s.pins.inByte = 0x00#8 → s.maskReq = false →
      exec i s = .next { s with
        phase := .b0, masked := false, len7 := 0#7, payloadLength := 0#64
        out := .consumed .frameComplete .none (ctlActionOf t) none }) ∧
    (s.phase = .ext → s.cnt + 1#4 = (if s.len7 = 126#7 then 2#4 else 8#4) → s.masked = false →
      (s.payloadLength <<< 8) ||| s.pins.inByte.setWidth 64 = 0#64 →
      exec i s = .next { s with
        phase := .b0, cnt := s.cnt + 1#4, payloadLength := 0#64
        out := .consumed .frameComplete .none (ctlActionOf t) none })

/-- R125: a mask-key byte that is not the last goes to the register CNT names and is counted. -/
def Obligations.KeyByteIsCaptured : Prop :=
  ∀ (i : Instr) (s : State), s.phase = .key →
    (s.cnt = 0#4 → exec i s = .next { s with
      maskKey := { s.maskKey with k0 := s.pins.inByte }, cnt := 1#4
      out := .consumed .incomplete .none .none none }) ∧
    (s.cnt = 1#4 → exec i s = .next { s with
      maskKey := { s.maskKey with k1 := s.pins.inByte }, cnt := 2#4
      out := .consumed .incomplete .none .none none }) ∧
    (s.cnt = 2#4 → exec i s = .next { s with
      maskKey := { s.maskKey with k2 := s.pins.inByte }, cnt := 3#4
      out := .consumed .incomplete .none .none none })

/-- R125, R127, R150: the fourth key byte completes the header: a frame of length 0 completes there, with its type's
control action and no store; any other goes on to its payload. -/
def Obligations.LastKeyByteCompletesHeader : Prop :=
  ∀ (i : Instr) (t : FrameType) (s : State), i.opcode = s.opcode → registryType s.opcode = some t → s.phase = .key →
    s.cnt = 3#4 →
    (s.payloadLength = 0#64 → exec i s = .next { s with
      phase := .b0, maskKey := { s.maskKey with k3 := s.pins.inByte }, cnt := 4#4
      out := .consumed .frameComplete .none (ctlActionOf t) none }) ∧
    (s.payloadLength ≠ 0#64 → exec i s = .next { s with
      phase := .pay, payCnt := 0#64, maskKey := { s.maskKey with k3 := s.pins.inByte }, cnt := 4#4
      out := .consumed .incomplete .none .none none })

/-- R140, R141: a payload byte is XOR-ed with MASK_KEY[i mod 4], stored at i = PAY_CNT and counted; the last one completes
the frame with its type's control action (R150). The store ends the validity window of the frame before and the completing
byte opens this frame's (R72); the window as a field is the model's choice (log entry 13). Every register and every other PMEM cell stays. CONT, TEXT, BIN, CLOSE,
PING and PONG, on a platform whose PMAX holds the frame. -/
def Obligations.PayloadByteIsUnmaskedAndStored : Prop :=
  ∀ (i : Instr) (t : FrameType) (s : State), i.opcode = s.opcode → registryType s.opcode = some t → s.phase = .pay →
    (∀ n, s.pmax = some n → s.payloadLength.toNat ≤ n) →
    ∃ u, exec i s = .next u ∧
      u = { s with
        payCnt := s.payCnt + 1#64
        window := if s.payCnt + 1#64 = s.payloadLength then s.payloadLength else 0#64
        phase := if s.payCnt + 1#64 = s.payloadLength then .b0 else .pay
        pmem := u.pmem
        out := if s.payCnt + 1#64 = s.payloadLength
          then .consumed .frameComplete .none (ctlActionOf t)
            (some ⟨s.payCnt, unmask s.pins.inByte s.payCnt.toNat s.maskKey⟩)
          else .consumed .incomplete .none .none
            (some ⟨s.payCnt, unmask s.pins.inByte s.payCnt.toNat s.maskKey⟩) } ∧
      Memory.read u.pmem s.payCnt.toNat = some (unmask s.pins.inByte s.payCnt.toNat s.maskKey) ∧
      ∀ a, a ≠ s.payCnt.toNat → Memory.read u.pmem a = Memory.read s.pmem a

/-- R66, W2: a payload byte of a frame longer than a finite PMAX is refused, under every instruction in flight. That the
refusal falls on the payload byte and not earlier is the model's choice (log entry 5). -/
def Obligations.FrameBeyondPmaxIsRefused : Prop :=
  ∀ (i : Instr) (s : State) (n : Nat), s.phase = .pay → s.pmax = some n → n < s.payloadLength.toNat →
    exec i s = .refused .payloadExceedsPmax

/-! ## The terminal phase -/

/-- R128, R197: in PH_ERR every byte is discarded: the same reason is signalled again and nothing else changes. -/
def Obligations.ErrorPhaseDiscardsBytes : Prop :=
  ∀ (i : Instr) (s : State), s.phase = .err →
    exec i s = .next { s with out := .consumed .protocolError s.errReason .none none }

/-- R41, R195 to R197: once an error is recorded, every step but a reset cycle keeps PHASE, ERR_REASON and every frame
field register, and a reset cycle clears it. -/
def Obligations.OnlyResetLeavesError : Prop :=
  ∀ (s t : State), s.phase = .err → step s = .next t →
    (t.pins.rst = false → t = { s with pins := t.pins, pending := t.pending, out := t.out }) ∧
    (t.pins.rst = true → t.phase = .b0 ∧ t.errReason = .none)

/-- R41, R190, R191: outside PH_ERR a byte changes ERR_REASON only by raising an error, with the signal and the phase, no
control action and no PMEM write; else it leaves ERR_REASON. -/
def Obligations.ErrorEntryIsPrecise : Prop :=
  ∀ (i : Instr) (s t : State), s.phase ≠ .err → exec i s = .next t →
    (t.phase = .err ∧ t.errReason ≠ .none ∧ t.out = .consumed .protocolError t.errReason .none none ∧
        t.pmem = s.pmem) ∨
      (t.phase ≠ .err ∧ t.errReason = s.errReason ∧ ∃ g a w, t.out = .consumed g .none a w ∧ g ≠ .protocolError)

/-- R186, R189: under the invariant, an error is raised only on a header byte: E_OPCODE and E_RSV at frame offset 0, E_MASK
at 1, E_CTRL_FRAG at 1, 3 or 9, E_CTRL_LEN at 3 or 9. -/
def Obligations.ErrorsOnlyOnHeaderBytes : Prop :=
  ∀ (i : Instr) (s t : State), Inv s → s.phase ≠ .err → exec i s = .next t → t.phase = .err →
    match t.errReason with
    | .none => False
    | .opcode => frameOffset s = some 0
    | .rsv => frameOffset s = some 0
    | .mask => frameOffset s = some 1
    | .ctrlFrag => frameOffset s = some 1 ∨ frameOffset s = some 3 ∨ frameOffset s = some 9
    | .ctrlLen => frameOffset s = some 3 ∨ frameOffset s = some 9

/-! ## Frames -/

/-- The frame of CONT, TEXT, BIN, CLOSE, PING, PONG and the ten invalid opcodes over PMEM and the rest of the machine
(R60, R62, R20): the only cell a byte can change is PAY_CNT's, in a payload step; the policy, PMAX and the input are
never written. Outside a payload step the validity window stays too (R72); it is the model's record, and that it stays in
PH_ERR is the model's reading (log entry 13). -/
def Obligations.ExecMemoryFrame : Prop :=
  ∀ (i : Instr) (s t : State), exec i s = .next t →
    (∀ a, (s.phase = .pay → a ≠ s.payCnt.toNat) → Memory.read t.pmem a = Memory.read s.pmem a) ∧
    (s.phase ≠ .pay → t.pmem = s.pmem ∧ t.window = s.window) ∧
    t.maskReq = s.maskReq ∧ t.pmax = s.pmax ∧ t.pins = s.pins ∧ t.pending = s.pending

/-- The frame of the same sixteen over the registers (R21 to R28, R32, R33): each is written only by the byte steps that
its rule names. -/
def Obligations.ExecRegisterFrame : Prop :=
  ∀ (i : Instr) (s t : State), exec i s = .next t →
    (s.phase ≠ .b0 → t.fin = s.fin ∧ t.rsv1 = s.rsv1 ∧ t.rsv2 = s.rsv2 ∧ t.rsv3 = s.rsv3 ∧ t.opcode = s.opcode) ∧
    (s.phase ≠ .b0 → s.phase ≠ .b1 → t.masked = s.masked ∧ t.len7 = s.len7) ∧
    (s.phase = .key ∨ s.phase = .pay ∨ s.phase = .err → t.payloadLength = s.payloadLength) ∧
    (s.phase ≠ .b0 → s.phase ≠ .key → t.maskKey = s.maskKey) ∧
    (s.phase = .b1 → t.phase = .ext → t.payloadLength = s.payloadLength) ∧
    (s.phase = .pay ∨ s.phase = .err → t.cnt = s.cnt) ∧
    (s.phase = .b1 → t.phase ≠ .ext → t.phase ≠ .key → t.cnt = s.cnt) ∧
    (s.phase ≠ .b0 → s.phase ≠ .pay → t.phase ≠ .pay → t.payCnt = s.payCnt)

/-- R36 to R38, R41, R62: what a byte's outputs can be: the reason port shows a reason only with ProtocolError, an action
only with FrameComplete, and the write port is enabled exactly in a payload step. -/
def Obligations.StepOutputsAreConsistent : Prop :=
  ∀ (i : Instr) (s t : State), exec i s = .next t →
    ∃ g r a w, t.out = .consumed g r a w ∧ (g ≠ .protocolError → r = .none) ∧ (g ≠ .frameComplete → a = .none) ∧
      (g = .protocolError ↔ t.phase = .err) ∧ (w.isSome ↔ s.phase = .pay)

/-- R36 to R39: the numeric codes on the ports, and the codes no port shows; the control action of each frame type
(R150, the last column of R158). -/
def Obligations.PortCodes : Prop :=
  (Sig.incomplete.code = 0#2 ∧ Sig.frameComplete.code = 1#2 ∧ Sig.protocolError.code = 2#2) ∧
    (ErrReason.none.code = 0#3 ∧ ErrReason.opcode.code = 1#3 ∧ ErrReason.rsv.code = 2#3 ∧
      ErrReason.mask.code = 3#3 ∧ ErrReason.ctrlFrag.code = 4#3 ∧ ErrReason.ctrlLen.code = 5#3) ∧
    (CtlAction.none.code = 0#2 ∧ CtlAction.close.code = 1#2 ∧ CtlAction.ping.code = 2#2 ∧
      CtlAction.pong.code = 3#2) ∧
    (Phase.b0.code = 0#3 ∧ Phase.b1.code = 1#3 ∧ Phase.ext.code = 2#3 ∧ Phase.key.code = 3#3 ∧
      Phase.pay.code = 4#3 ∧ Phase.err.code = 7#3) ∧
    (∀ g : Sig, g.code ≠ 3#2) ∧ (∀ r : ErrReason, r.code ≠ 6#3 ∧ r.code ≠ 7#3) ∧
    (∀ p : Phase, p.code ≠ 5#3 ∧ p.code ≠ 6#3) ∧
    (ctlActionOf .cont = .none ∧ ctlActionOf .text = .none ∧ ctlActionOf .bin = .none ∧
      ctlActionOf .close = .close ∧ ctlActionOf .ping = .ping ∧ ctlActionOf .pong = .pong)

/-- R42, with R21 to R27, R29, R31, R62: after a cycle that consumed a byte the ports show its outputs and the write port;
after every cycle they show the post-step registers and views, and `in_ready` is 1. -/
def Obligations.PortsShowOutputsAndRegisters : Prop :=
  ∀ s : State,
    (∀ (g : Sig) (r : ErrReason) (a : CtlAction) (w : Option PayloadWrite), s.out = .consumed g r a w →
      (ports s).sigValid = true ∧ (ports s).sig = some g.code ∧
      (ports s).errReason = some r.code ∧ (ports s).ctlAction = some a.code ∧ (ports s).pwEn = w.isSome ∧
      ∀ x, w = some x → (ports s).pwAddr = some x.addr ∧ (ports s).pwData = some x.data) ∧
    (ports s).inReady = true ∧
    (ports s).fFin = s.fin ∧ (ports s).fRsv = BitVec.ofBool s.rsv1 ++ BitVec.ofBool s.rsv2 ++ BitVec.ofBool s.rsv3 ∧
    (ports s).fOpcode = s.opcode ∧ (ports s).fFtypeValid = registryValid s.opcode ∧
    (∀ t, registryType s.opcode = some t → (ports s).fFtype = ftypeCode t ∧ (ports s).fIsCtrl = isControl t) ∧
    (ports s).fMasked = s.masked ∧ (ports s).fLen7 = s.len7 ∧
    (ports s).fMaskKey = s.maskKey.k0 ++ s.maskKey.k1 ++ s.maskKey.k2 ++ s.maskKey.k3 ∧
    (ports s).fPayloadLength = s.payloadLength ∧ (ports s).dbgPhase = s.phase.code

/-! ## Invariants -/

/-- R46 at reset. -/
def Obligations.ResetMeetsInvariant : Prop := Inv State.reset

/-- R46 (a) to (h): every step from a state that meets the invariant leads to one that meets it. -/
def Obligations.StepKeepsInvariant : Prop :=
  ∀ s t : State, Inv s → step s = .next t → Inv t

/-- R30: under the invariant every byte advances the frame-relative offset by one, or completes the frame and returns it
to 0, or raises an error. -/
def Obligations.FrameOffsetAdvances : Prop :=
  ∀ (i : Instr) (s t : State) (k : Nat), Inv s → exec i s = .next t → frameOffset s = some k →
    frameOffset t = some (k + 1) ∨ (frameOffset t = some 0 ∧ ∃ a w, t.out = .consumed .frameComplete .none a w) ∨
      t.phase = .err

/-- R143 (a) to (d): under the invariant no counter and no length wraps, and the extension of LEN7 is exact. -/
def Obligations.ArithmeticDoesNotWrap : Prop :=
  ∀ s : State, Inv s →
    (s.phase = .pay → (s.payCnt + 1#64).toNat = s.payCnt.toNat + 1) ∧
    (s.phase = .ext → s.cnt.toNat ≤ 7) ∧ (s.phase = .key → s.cnt.toNat ≤ 3) ∧
    (s.phase = .ext ∨ s.phase = .key → (s.cnt + 1#4).toNat = s.cnt.toNat + 1) ∧
    (s.phase = .ext → ∀ b : Byte,
      ((s.payloadLength <<< 8) ||| b.setWidth 64).toNat = s.payloadLength.toNat * 256 + b.toNat) ∧
    (s.len7.setWidth 64).toNat = s.len7.toNat

/-! ## PMEM and the unmasker -/

/-- R62, R63: a cell reads back the last byte written to it, a write changes no other cell and keeps the canonical form. -/
def Obligations.PmemReadAfterWrite : Prop :=
  ∀ (m : Memory) (a : Word64) (v : Byte),
    Memory.read (Memory.write m a.toNat v) a.toNat = some v ∧
    (∀ b, b ≠ a.toNat → Memory.read (Memory.write m a.toNat v) b = Memory.read m b) ∧
    (Memory.wf m = true → Memory.wf (Memory.write m a.toNat v) = true)

/-- R63, R67, R72: inside the validity window the consumer's read answers the last value written, and the window of a frame
shown between frames is its whole payload. Outside it the spec gives no value: that the read then answers a free value of
its own number, and draws no stale byte, is the model's choice between R67's two ways (log entries 4 and 13). -/
def Obligations.ConsumerReadsCompletedPayload : Prop :=
  ∀ (s : State) (a : Word64) (draw : Nat), Inv s →
    (a < s.window → Memory.read s.pmem a.toNat = some (memRead s a draw)) ∧
    (¬a < s.window → memRead s a draw = Config.unspecifiedByte draw) ∧
    (s.phase = .b0 → s.payloadLength ≠ 0#64 → s.window = s.payloadLength)

/-- R72, R218, PMEM's half: a step without a store (`pw_en` = 0: every header byte of a later frame, an empty frame, a byte
after an error, an idle cycle, a reset) leaves the window and every read; a step with a store ends the window unless it
completes its frame, and then the window is that frame's payload. No read has a side effect: it answers no state. The field
is the model's choice, and that the window stays through PH_ERR and reset is its reading of R72 (log entry 13). -/
def Obligations.ValidityWindowLastsToNextPayload : Prop :=
  ∀ s t : State, step s = .next t →
    ((ports t).pwEn = false → t.window = s.window ∧ ∀ a draw, memRead t a draw = memRead s a draw) ∧
    ((ports t).pwEn = true → (ports t).sig = some Sig.frameComplete.code → t.window = t.payloadLength) ∧
    ((ports t).pwEn = true → (ports t).sig ≠ some Sig.frameComplete.code → t.window = 0#64)

/-- R60, "no rule of the block reads it": PMEM's contents decide nothing. Two states that differ only there step to states
that differ only there. -/
def Obligations.PmemContentsDecideNothing : Prop :=
  ∀ (s : State) (m : Memory),
    (∀ t, step s = .next t → ∃ m', step { s with pmem := m } = .next { t with pmem := m' }) ∧
    ∀ r, step s = .refused r → step { s with pmem := m } = .refused r

/-- R86, R140: "no payload byte value is illegal": two different bytes in the payload's place lead to the same registers
and the same signal, and differ only in the byte stored. -/
def Obligations.PayloadBytesDoNotSteer : Prop :=
  ∀ (i : Instr) (s t t' : State) (b : Byte), s.phase = .pay → exec i s = .next t →
    exec i { s with pins := { s.pins with inByte := b } } = .next t' →
    t = { t' with pins := t.pins, pmem := t.pmem, out := t.out } ∧
    (ports t).sig = (ports t').sig ∧ (ports t).ctlAction = (ports t').ctlAction ∧
    (ports t).pwAddr = (ports t').pwAddr

/-- R141: the unmasker is the XOR with key byte i mod 4, an involution, the identity under the zero key, and depends on the
index only through i mod 4. -/
def Obligations.UnmaskerLaws : Prop :=
  ∀ (b : Byte) (i : Nat) (key : MaskKey),
    unmask b (4 * i) key = b ^^^ key.k0 ∧ unmask b (4 * i + 1) key = b ^^^ key.k1 ∧
    unmask b (4 * i + 2) key = b ^^^ key.k2 ∧ unmask b (4 * i + 3) key = b ^^^ key.k3 ∧
    unmask (unmask b i key) i key = b ∧ unmask b i ⟨0x00#8, 0x00#8, 0x00#8, 0x00#8⟩ = b ∧
    unmask b i key = unmask b (i % 4) key

/-- The source's round trip (95_test_vectors.md S1, R141): masking then unmasking a payload from any index gives it back. -/
def Obligations.MaskingTwiceIsIdentity : Prop :=
  ∀ (key : MaskKey) (i : Nat) (payload : List Byte), xorPayload key i (xorPayload key i payload) = payload

/-- R64, R84, R95, R124: shifting up to eight bytes in from 0 gives their big-endian value, which for two and for eight
bytes is the sum R83 and R84 write out. -/
def Obligations.ExtendedLengthIsBigEndian : Prop :=
  (∀ bs : List Byte, bs.length ≤ 8 →
    (bs.foldl (fun (v : Word64) (b : Byte) => (v <<< 8) ||| b.setWidth 64) 0#64).toNat = bigEndianValue bs) ∧
    (∀ e0 e1 : Byte, bigEndianValue [e0, e1] = e0.toNat * 256 + e1.toNat) ∧
    ∀ e0 e1 e2 e3 e4 e5 e6 e7 : Byte, bigEndianValue [e0, e1, e2, e3, e4, e5, e6, e7] =
      e0.toNat * 2 ^ 56 + e1.toNat * 2 ^ 48 + e2.toNat * 2 ^ 40 + e3.toNat * 2 ^ 32 + e4.toNat * 2 ^ 24 +
        e5.toNat * 2 ^ 16 + e6.toNat * 2 ^ 8 + e7.toNat

/-! ## Whole frames -/

/-- R151 to R156, R43, R70, R150: from PH_B0, the bytes of a frame the block accepts give Incomplete on every byte but the
last and FrameComplete on the last, with the type's control action; the Frame delivered is the frame that was encoded,
payload unmasked, the consumer's reads answer its payload (R63, R72), and the machine is in PH_B0 at the next byte. -/
def Obligations.AcceptedFrameIsDelivered : Prop :=
  ∀ (f : Frame) (o : Operands) (t : FrameType) (s : State) (rest : List Pins),
    f.wf = true → f.operands = some o → registryType f.start.opcode = some t →
    firstViolation s.maskReq f = none → (∀ n, s.pmax = some n → o.payload.length ≤ n) →
    s.phase = .b0 → s.pending = byteCycles (encodeFrame f) ++ rest →
    (∀ k, 0 < k → k < (encodeFrame f).length → ∃ (u : State) (w : Option PayloadWrite),
      Host.Core.run Sys2Proof.core k s = .next u ∧ u.out = .consumed .incomplete .none .none w) ∧
    ∃ (u : State) (w : Option PayloadWrite),
      Host.Core.run Sys2Proof.core (encodeFrame f).length s = .next u ∧
      u.out = .consumed .frameComplete .none (ctlActionOf t) w ∧
      deliveredFrame u = some (frameObsOf t f.start o) ∧
      (∀ (a : Word64) (draw : Nat), a.toNat < o.payload.length → o.payload[a.toNat]? = some (memRead u a draw)) ∧
      u.phase = .b0 ∧ u.pending = rest ∧ u.maskReq = s.maskReq ∧ u.errReason = s.errReason

/-- R187, R189, R191: from PH_B0, a frame that breaks a rule raises its first violation in the priority E_OPCODE, E_RSV,
E_MASK, E_CTRL_FRAG, E_CTRL_LEN, at that violation's byte; Incomplete before it, the same error on every later byte of the
frame, and no PMEM write at all. -/
def Obligations.ViolatingFrameRaisesFirstViolation : Prop :=
  ∀ (f : Frame) (r : ErrReason) (s : State) (rest : List Pins),
    f.wf = true → firstViolation s.maskReq f = some r → s.phase = .b0 →
    s.pending = byteCycles (encodeFrame f) ++ rest →
    violationOffset f r < (encodeFrame f).length ∧
    (∀ k, 0 < k → k ≤ violationOffset f r → ∃ u : State,
      Host.Core.run Sys2Proof.core k s = .next u ∧ u.out = .consumed .incomplete .none .none none) ∧
    ∀ k, violationOffset f r < k → k ≤ (encodeFrame f).length → ∃ u : State,
      Host.Core.run Sys2Proof.core k s = .next u ∧ u.phase = .err ∧ u.errReason = r ∧
      u.out = .consumed .protocolError r .none none ∧ u.pmem = s.pmem

/-- R46 (i), R70: inside an accepted frame's payload, after its header and k payload bytes, PAY_CNT is k, the first k cells
hold the first k unmasked bytes, and no other cell has changed. -/
def Obligations.PartialPayloadIsStoredInOrder : Prop :=
  ∀ (f : Frame) (o : Operands) (t : FrameType) (s : State) (rest : List Pins) (k : Nat),
    f.wf = true → f.operands = some o → registryType f.start.opcode = some t →
    firstViolation s.maskReq f = none → (∀ n, s.pmax = some n → o.payload.length ≤ n) →
    s.phase = .b0 → s.pending = byteCycles (encodeFrame f) ++ rest → k < o.payload.length →
    ∃ u : State, Host.Core.run Sys2Proof.core ((encodeFrame f).length - o.payload.length + k) s = .next u ∧
      u.phase = .pay ∧ u.payCnt.toNat = k ∧
      (∀ j, j < k → Memory.read u.pmem j = o.payload[j]?) ∧
      ∀ a, k ≤ a → Memory.read u.pmem a = Memory.read s.pmem a

/-- R12, R65, R206 (95_test_vectors.md S3): idle cycles between bytes change nothing: a run over any reset-free cycles ends
in the same registers and PMEM as the run over their bytes alone. -/
def Obligations.IdleGapsDoNotMatter : Prop :=
  ∀ (s t : State) (ps rest : List Pins), (∀ p ∈ ps, p.rst = false) → s.pending = ps ++ rest →
    Host.Core.run Sys2Proof.core ps.length s = .next t →
    ∃ u : State,
      Host.Core.run Sys2Proof.core (ps.filter (fun p => p.inValid)).length
        { s with pending := ps.filter (fun p => p.inValid) ++ rest } = .next u ∧
      t = { u with pins := t.pins, out := t.out }

/-- R196, R210, R211: a reset cycle leaves no trace of the frame or the error before it: two states that agree on PMEM, PMAX
and the input step to the same state, each with its own record of PMEM's validity window (R72), which reset keeps as it
keeps PMEM (log entry 13). -/
def Obligations.ResetForgetsTheFrame : Prop :=
  ∀ (s s' : State) (p : Pins) (rest : List Pins), p.rst = true → s.pending = p :: rest → s'.pending = p :: rest →
    s.pmem = s'.pmem → s.pmax = s'.pmax →
    ∃ t : State, step s = .next { t with window := s.window } ∧ step s' = .next { t with window := s'.window }

/-! ## The consumer's interface -/

/-- R162: the reassembler's transition table, and R164: a control frame leaves the in-progress message as it is. -/
def Obligations.ReassemblerTransitions : Prop :=
  ∀ (f : FrameObs) (m : Message),
    (f.frameType = .text → f.fin = false → accept none f = (.pending, some ⟨.text, f.payload⟩)) ∧
    (f.frameType = .text → f.fin = true → accept none f = (.complete ⟨.text, f.payload⟩, none)) ∧
    (f.frameType = .bin → f.fin = false → accept none f = (.pending, some ⟨.binary, f.payload⟩)) ∧
    (f.frameType = .bin → f.fin = true → accept none f = (.complete ⟨.binary, f.payload⟩, none)) ∧
    (f.frameType = .cont → (accept none f).1 = .error) ∧
    (f.frameType = .cont → f.fin = false →
      accept (some m) f = (.pending, some ⟨m.messageType, m.payload ++ f.payload⟩)) ∧
    (f.frameType = .cont → f.fin = true →
      accept (some m) f = (.complete ⟨m.messageType, m.payload ++ f.payload⟩, none)) ∧
    (f.frameType = .text ∨ f.frameType = .bin → (accept (some m) f).1 = .error) ∧
    (isControl f.frameType = true → ∀ cur, (accept cur f).2 = cur)

/-- The source's fragmentation property (95_test_vectors.md S4, S5, R162, R164): a non-final first frame, non-final
continuations with control frames anywhere among them, and a final continuation complete one message whose payload is the
continuations' concatenation in order. -/
def Obligations.FragmentsReassemble : Prop :=
  ∀ (m : Message) (mids : List FrameObs) (last : FrameObs),
    (∀ g ∈ mids, g.frameType = .cont ∧ g.fin = false ∨ isControl g.frameType = true) →
    last.frameType = .cont → last.fin = true →
    accept (mids.foldl (fun cur g => (accept cur g).2) (some m)) last =
      (.complete ⟨m.messageType, m.payload ++
        ((mids.filter (fun g => g.frameType == .cont)).map FrameObs.payload).flatten ++ last.payload⟩, none)

/-- R169, R163: which callbacks a cycle's outputs become, under every policy for undecodable text: a completed Close,
whatever was shown, is on_close; a completed Ping or Pong goes on with its payload at once and leaves the in-progress
message; a completed data frame goes to the reassembler and its message to on_message, raw, followed by the caller's policy
if it is a Text message with a byte above 127; a protocol error, whatever the registers show, becomes none of the four but
the teardown; every other cycle calls nothing. That decodable text is bytes below 128 is the model's reading of R163's ASCII
code units (log entry 14). -/
def Obligations.OutputsBecomeCallbacks : Prop :=
  ∀ (policy : TextPolicy) (cur : Option Message) (s : State) (r : ErrReason) (w : Option PayloadWrite),
    (s.out = .consumed .frameComplete r .close w → (consume policy cur s).1 = [.onClose]) ∧
    (∀ f, frameView s = some f →
      (s.out = .consumed .frameComplete r .ping w → consume policy cur s = ([.onPing f.payload], cur)) ∧
      (s.out = .consumed .frameComplete r .pong w → consume policy cur s = ([.onPong f.payload], cur)) ∧
      (s.out = .consumed .frameComplete r .none w →
        (∀ cur', accept cur f = (.pending, cur') → consume policy cur s = ([], cur')) ∧
        (∀ m cur', accept cur f = (.complete m, cur') →
          (m.messageType = .binary ∨ (∀ b ∈ m.payload, b < 0x80#8) →
            consume policy cur s = ([.onMessage m], cur')) ∧
          (m.messageType = .text → (∃ b ∈ m.payload, 0x80#8 ≤ b) →
            consume policy cur s = (.onMessage m :: policy m, cur'))))) ∧
    (∀ a, s.out = .consumed .protocolError r a w → (consume policy cur s).1 = [.teardown (.protocolError r)]) ∧
    ((∃ a, s.out = .consumed .incomplete r a w) ∨ s.out = .idle → consume policy cur s = ([], cur)) ∧
    (s.out = .resetCycle → (consume policy cur s).1 = [])

/-- R168, R170, R180 b: "in-flight partial frames/messages are discarded, not delivered". Every end of a connection, a
protocol error, a received Close, the reassembler's Error (a fatal protocol error too) and a reset leave no message in
progress; and with none in progress a completed Continuation frame, final or not, delivers nothing and is again the
reassembler's Error. That a reset cycle leaves no message is the model's reading of R168, R210 and R211 (log entry 14); that
the consumer stays open for a frame fed after its connection's end is the model's choice (log entry 15). -/
def Obligations.PartialMessageIsNeverDelivered : Prop :=
  ∀ (policy : TextPolicy) (cur : Option Message) (s : State) (r : ErrReason) (w : Option PayloadWrite),
    (∀ why, (endConnection why).2 = none) ∧
    (∀ a, s.out = .consumed .protocolError r a w → (consume policy cur s).2 = none) ∧
    (s.out = .consumed .frameComplete r .close w → (consume policy cur s).2 = none) ∧
    (s.out = .resetCycle → (consume policy cur s).2 = none) ∧
    (∀ f, frameView s = some f → s.out = .consumed .frameComplete r .none w →
      ((accept cur f).1 = .error → consume policy cur s = ([.teardown .outOfSequence], none)) ∧
      (f.frameType = .cont → consume policy none s = ([.teardown .outOfSequence], none)))
end

