-- ==== Sys2Proof/Laws/Memory.lean ====
section
/-! SUPPORT. The laws of PMEM: read after write, a write's frame, and the canonical form every write keeps. -/

namespace Sys2Proof.Machine

@[simp] theorem Memory.read_write_same (m : Memory) (a : Nat) (v : Byte) :
    Memory.read (Memory.write m a v) a = some v := by
  induction m with
  | nil => simp [Memory.write, Memory.read]
  | cons c m ih =>
    obtain ⟨k, x⟩ := c
    unfold Memory.write
    split
    · simp [Memory.read]
    · split
      · simp [Memory.read]
      · have : k ≠ a := fun h => by simp_all
        simp [Memory.read, this, ih]

theorem Memory.read_write_other (m : Memory) {a b : Nat} (v : Byte) (h : b ≠ a) :
    Memory.read (Memory.write m a v) b = Memory.read m b := by
  induction m with
  | nil => simp [Memory.write, Memory.read, Ne.symm h]
  | cons c m ih =>
    obtain ⟨k, x⟩ := c
    unfold Memory.write
    split
    · simp [Memory.read, Ne.symm h]
    · split
      · next hk => subst hk; simp [Memory.read, Ne.symm h]
      · simp [Memory.read, ih]

theorem Memory.wfFrom_write (m : Memory) (lo a : Nat) (v : Byte) (hlo : lo ≤ a) (ha : a < 2 ^ 64)
    (h : Memory.wfFrom lo m = true) : Memory.wfFrom lo (Memory.write m a v) = true := by
  norm_num at ha
  induction m generalizing lo with
  | nil => simp [Memory.write, Memory.wfFrom, hlo, ha]
  | cons c m ih =>
    obtain ⟨k, x⟩ := c
    simp only [Memory.wfFrom, Bool.and_eq_true, decide_eq_true_eq] at h
    obtain ⟨⟨hk, hk'⟩, hm⟩ := h
    norm_num at hk'
    unfold Memory.write
    split
    · next hak => simp [Memory.wfFrom, hlo, ha, hk', hm, Nat.succ_le_of_lt hak]
    · split
      · next hak => subst hak; simp [Memory.wfFrom, hlo, ha, hm]
      · next h1 h2 => simp [Memory.wfFrom, hk, hk', ih (k + 1) (by omega) hm]

/-- Every write of the block keeps the canonical form: its address is 64 bits wide. -/
theorem Memory.wf_write (m : Memory) (a : Word64) (v : Byte) (h : Memory.wf m = true) :
    Memory.wf (Memory.write m a.toNat v) = true :=
  Memory.wfFrom_write m 0 a.toNat v (Nat.zero_le _) a.isLt h

theorem Memory.wf_reset : Memory.wf State.reset.pmem = true := rfl

end Sys2Proof.Machine
end

