-- ==== Sys2Proof/Laws/Registry.lean ====
section
/-! SUPPORT. The registry's small lemmas (40_registry.md), and how an instruction's bits come back from its word. -/

namespace Sys2Proof.Machine

theorem registryType_isSome (op : BitVec 4) : (registryType op).isSome = registryValid op := by
  revert op; decide

theorem isControlOp_eq {op : BitVec 4} {t : FrameType} (h : registryType op = some t) :
    isControlOp op = isControl t := by
  simp [isControlOp, h]

end Sys2Proof.Machine

namespace Sys2Proof

@[simp] theorem encodeByte_eq_byteZero (i : Instr) :
    encodeByte i = byteZero i.fin i.rsv1 i.rsv2 i.rsv3 i.opcode := by
  cases i <;> rfl

theorem byteZero_bits (fin rsv1 rsv2 rsv3 : Bool) (op : BitVec 4) :
    (byteZero fin rsv1 rsv2 rsv3 op).getLsbD 7 = fin ∧ (byteZero fin rsv1 rsv2 rsv3 op).getLsbD 6 = rsv1 ∧
      (byteZero fin rsv1 rsv2 rsv3 op).getLsbD 5 = rsv2 ∧ (byteZero fin rsv1 rsv2 rsv3 op).getLsbD 4 = rsv3 ∧
      (byteZero fin rsv1 rsv2 rsv3 op).extractLsb' 0 4 = op := by
  revert fin rsv1 rsv2 rsv3 op; decide

theorem byteOne_bits (m : Bool) (l : BitVec 7) :
    (byteOne m l).getLsbD 7 = m ∧ (byteOne m l).extractLsb' 0 7 = l := by
  revert m l; decide

/-- Two instructions with the same opcode and the same four operand bits are the same. -/
theorem Instr.ext_fields {i j : Instr} (ho : i.opcode = j.opcode) (hf : i.fin = j.fin) (h1 : i.rsv1 = j.rsv1)
    (h2 : i.rsv2 = j.rsv2) (h3 : i.rsv3 = j.rsv3) : i = j := by
  cases i <;> cases j <;> simp_all [Instr.opcode, Instr.fin, Instr.rsv1, Instr.rsv2, Instr.rsv3]

theorem bigEndian_length (n v : Nat) : (bigEndian n v).length = n := by
  induction n with
  | zero => rfl
  | succ n ih => simp [bigEndian, ih]

end Sys2Proof

namespace Sys2Proof.Machine

theorem xorPayload_length (key : MaskKey) (i : Nat) (bs : List Byte) : (xorPayload key i bs).length = bs.length := by
  induction bs generalizing i with
  | nil => rfl
  | cons b bs ih => simp [xorPayload, ih]

end Sys2Proof.Machine
end

