-- ==== Sys2Proof/Laws/State.lean ====
section
/-! SUPPORT. One lemma per field per named update of State, so that no proof unfolds a record update. -/

namespace Sys2Proof.Machine

@[simp] theorem State.latch_phase (s : State) (p : Pins) (rest : List Pins) : (s.latch p rest).phase = s.phase := rfl
@[simp] theorem State.latch_cnt (s : State) (p : Pins) (rest : List Pins) : (s.latch p rest).cnt = s.cnt := rfl
@[simp] theorem State.latch_payCnt (s : State) (p : Pins) (rest : List Pins) : (s.latch p rest).payCnt = s.payCnt := rfl
@[simp] theorem State.latch_fin (s : State) (p : Pins) (rest : List Pins) : (s.latch p rest).fin = s.fin := rfl
@[simp] theorem State.latch_rsv1 (s : State) (p : Pins) (rest : List Pins) : (s.latch p rest).rsv1 = s.rsv1 := rfl
@[simp] theorem State.latch_rsv2 (s : State) (p : Pins) (rest : List Pins) : (s.latch p rest).rsv2 = s.rsv2 := rfl
@[simp] theorem State.latch_rsv3 (s : State) (p : Pins) (rest : List Pins) : (s.latch p rest).rsv3 = s.rsv3 := rfl
@[simp] theorem State.latch_opcode (s : State) (p : Pins) (rest : List Pins) : (s.latch p rest).opcode = s.opcode := rfl
@[simp] theorem State.latch_masked (s : State) (p : Pins) (rest : List Pins) : (s.latch p rest).masked = s.masked := rfl
@[simp] theorem State.latch_len7 (s : State) (p : Pins) (rest : List Pins) : (s.latch p rest).len7 = s.len7 := rfl
@[simp] theorem State.latch_payloadLength (s : State) (p : Pins) (rest : List Pins) : (s.latch p rest).payloadLength = s.payloadLength := rfl
@[simp] theorem State.latch_maskKey (s : State) (p : Pins) (rest : List Pins) : (s.latch p rest).maskKey = s.maskKey := rfl
@[simp] theorem State.latch_maskReq (s : State) (p : Pins) (rest : List Pins) : (s.latch p rest).maskReq = s.maskReq := rfl
@[simp] theorem State.latch_errReason (s : State) (p : Pins) (rest : List Pins) : (s.latch p rest).errReason = s.errReason := rfl
@[simp] theorem State.latch_pmem (s : State) (p : Pins) (rest : List Pins) : (s.latch p rest).pmem = s.pmem := rfl
@[simp] theorem State.latch_window (s : State) (p : Pins) (rest : List Pins) : (s.latch p rest).window = s.window := rfl
@[simp] theorem State.latch_pmax (s : State) (p : Pins) (rest : List Pins) : (s.latch p rest).pmax = s.pmax := rfl
@[simp] theorem State.latch_pins (s : State) (p : Pins) (rest : List Pins) : (s.latch p rest).pins = p := rfl
@[simp] theorem State.latch_pending (s : State) (p : Pins) (rest : List Pins) : (s.latch p rest).pending = rest := rfl
@[simp] theorem State.latch_out (s : State) (p : Pins) (rest : List Pins) : (s.latch p rest).out = s.out := rfl

@[simp] theorem State.withhold_phase (s : State) : (s.withhold).phase = s.phase := rfl
@[simp] theorem State.withhold_cnt (s : State) : (s.withhold).cnt = s.cnt := rfl
@[simp] theorem State.withhold_payCnt (s : State) : (s.withhold).payCnt = s.payCnt := rfl
@[simp] theorem State.withhold_fin (s : State) : (s.withhold).fin = s.fin := rfl
@[simp] theorem State.withhold_rsv1 (s : State) : (s.withhold).rsv1 = s.rsv1 := rfl
@[simp] theorem State.withhold_rsv2 (s : State) : (s.withhold).rsv2 = s.rsv2 := rfl
@[simp] theorem State.withhold_rsv3 (s : State) : (s.withhold).rsv3 = s.rsv3 := rfl
@[simp] theorem State.withhold_opcode (s : State) : (s.withhold).opcode = s.opcode := rfl
@[simp] theorem State.withhold_masked (s : State) : (s.withhold).masked = s.masked := rfl
@[simp] theorem State.withhold_len7 (s : State) : (s.withhold).len7 = s.len7 := rfl
@[simp] theorem State.withhold_payloadLength (s : State) : (s.withhold).payloadLength = s.payloadLength := rfl
@[simp] theorem State.withhold_maskKey (s : State) : (s.withhold).maskKey = s.maskKey := rfl
@[simp] theorem State.withhold_maskReq (s : State) : (s.withhold).maskReq = s.maskReq := rfl
@[simp] theorem State.withhold_errReason (s : State) : (s.withhold).errReason = s.errReason := rfl
@[simp] theorem State.withhold_pmem (s : State) : (s.withhold).pmem = s.pmem := rfl
@[simp] theorem State.withhold_window (s : State) : (s.withhold).window = s.window := rfl
@[simp] theorem State.withhold_pmax (s : State) : (s.withhold).pmax = s.pmax := rfl
@[simp] theorem State.withhold_pins (s : State) : (s.withhold).pins = ⟨false, s.pins.cfgMaskRequired, false, s.pins.inByte⟩ := rfl
@[simp] theorem State.withhold_pending (s : State) : (s.withhold).pending = s.pending := rfl
@[simp] theorem State.withhold_out (s : State) : (s.withhold).out = s.out := rfl

@[simp] theorem State.beginStep_phase (s : State) : (s.beginStep).phase = s.phase := rfl
@[simp] theorem State.beginStep_cnt (s : State) : (s.beginStep).cnt = s.cnt := rfl
@[simp] theorem State.beginStep_payCnt (s : State) : (s.beginStep).payCnt = s.payCnt := rfl
@[simp] theorem State.beginStep_fin (s : State) : (s.beginStep).fin = s.fin := rfl
@[simp] theorem State.beginStep_rsv1 (s : State) : (s.beginStep).rsv1 = s.rsv1 := rfl
@[simp] theorem State.beginStep_rsv2 (s : State) : (s.beginStep).rsv2 = s.rsv2 := rfl
@[simp] theorem State.beginStep_rsv3 (s : State) : (s.beginStep).rsv3 = s.rsv3 := rfl
@[simp] theorem State.beginStep_opcode (s : State) : (s.beginStep).opcode = s.opcode := rfl
@[simp] theorem State.beginStep_masked (s : State) : (s.beginStep).masked = s.masked := rfl
@[simp] theorem State.beginStep_len7 (s : State) : (s.beginStep).len7 = s.len7 := rfl
@[simp] theorem State.beginStep_payloadLength (s : State) : (s.beginStep).payloadLength = s.payloadLength := rfl
@[simp] theorem State.beginStep_maskKey (s : State) : (s.beginStep).maskKey = s.maskKey := rfl
@[simp] theorem State.beginStep_maskReq (s : State) : (s.beginStep).maskReq = s.maskReq := rfl
@[simp] theorem State.beginStep_errReason (s : State) : (s.beginStep).errReason = s.errReason := rfl
@[simp] theorem State.beginStep_pmem (s : State) : (s.beginStep).pmem = s.pmem := rfl
@[simp] theorem State.beginStep_window (s : State) : (s.beginStep).window = s.window := rfl
@[simp] theorem State.beginStep_pmax (s : State) : (s.beginStep).pmax = s.pmax := rfl
@[simp] theorem State.beginStep_pins (s : State) : (s.beginStep).pins = s.pins := rfl
@[simp] theorem State.beginStep_pending (s : State) : (s.beginStep).pending = s.pending := rfl
@[simp] theorem State.beginStep_out (s : State) : (s.beginStep).out = .consumed .incomplete .none .none none := rfl

@[simp] theorem State.emit_phase (s : State) (g : Sig) (r : ErrReason) (a : CtlAction) : (s.emit g r a).phase = s.phase := rfl
@[simp] theorem State.emit_cnt (s : State) (g : Sig) (r : ErrReason) (a : CtlAction) : (s.emit g r a).cnt = s.cnt := rfl
@[simp] theorem State.emit_payCnt (s : State) (g : Sig) (r : ErrReason) (a : CtlAction) : (s.emit g r a).payCnt = s.payCnt := rfl
@[simp] theorem State.emit_fin (s : State) (g : Sig) (r : ErrReason) (a : CtlAction) : (s.emit g r a).fin = s.fin := rfl
@[simp] theorem State.emit_rsv1 (s : State) (g : Sig) (r : ErrReason) (a : CtlAction) : (s.emit g r a).rsv1 = s.rsv1 := rfl
@[simp] theorem State.emit_rsv2 (s : State) (g : Sig) (r : ErrReason) (a : CtlAction) : (s.emit g r a).rsv2 = s.rsv2 := rfl
@[simp] theorem State.emit_rsv3 (s : State) (g : Sig) (r : ErrReason) (a : CtlAction) : (s.emit g r a).rsv3 = s.rsv3 := rfl
@[simp] theorem State.emit_opcode (s : State) (g : Sig) (r : ErrReason) (a : CtlAction) : (s.emit g r a).opcode = s.opcode := rfl
@[simp] theorem State.emit_masked (s : State) (g : Sig) (r : ErrReason) (a : CtlAction) : (s.emit g r a).masked = s.masked := rfl
@[simp] theorem State.emit_len7 (s : State) (g : Sig) (r : ErrReason) (a : CtlAction) : (s.emit g r a).len7 = s.len7 := rfl
@[simp] theorem State.emit_payloadLength (s : State) (g : Sig) (r : ErrReason) (a : CtlAction) : (s.emit g r a).payloadLength = s.payloadLength := rfl
@[simp] theorem State.emit_maskKey (s : State) (g : Sig) (r : ErrReason) (a : CtlAction) : (s.emit g r a).maskKey = s.maskKey := rfl
@[simp] theorem State.emit_maskReq (s : State) (g : Sig) (r : ErrReason) (a : CtlAction) : (s.emit g r a).maskReq = s.maskReq := rfl
@[simp] theorem State.emit_errReason (s : State) (g : Sig) (r : ErrReason) (a : CtlAction) : (s.emit g r a).errReason = s.errReason := rfl
@[simp] theorem State.emit_pmem (s : State) (g : Sig) (r : ErrReason) (a : CtlAction) : (s.emit g r a).pmem = s.pmem := rfl
@[simp] theorem State.emit_window (s : State) (g : Sig) (r : ErrReason) (a : CtlAction) : (s.emit g r a).window = s.window := rfl
@[simp] theorem State.emit_pmax (s : State) (g : Sig) (r : ErrReason) (a : CtlAction) : (s.emit g r a).pmax = s.pmax := rfl
@[simp] theorem State.emit_pins (s : State) (g : Sig) (r : ErrReason) (a : CtlAction) : (s.emit g r a).pins = s.pins := rfl
@[simp] theorem State.emit_pending (s : State) (g : Sig) (r : ErrReason) (a : CtlAction) : (s.emit g r a).pending = s.pending := rfl
@[simp] theorem State.emit_out (s : State) (g : Sig) (r : ErrReason) (a : CtlAction) : (s.emit g r a).out = s.out.withSignal g r a := rfl

@[simp] theorem State.memWrite_phase (s : State) (i : Word64) (u : Byte) : (s.memWrite i u).phase = s.phase := rfl
@[simp] theorem State.memWrite_cnt (s : State) (i : Word64) (u : Byte) : (s.memWrite i u).cnt = s.cnt := rfl
@[simp] theorem State.memWrite_payCnt (s : State) (i : Word64) (u : Byte) : (s.memWrite i u).payCnt = s.payCnt := rfl
@[simp] theorem State.memWrite_fin (s : State) (i : Word64) (u : Byte) : (s.memWrite i u).fin = s.fin := rfl
@[simp] theorem State.memWrite_rsv1 (s : State) (i : Word64) (u : Byte) : (s.memWrite i u).rsv1 = s.rsv1 := rfl
@[simp] theorem State.memWrite_rsv2 (s : State) (i : Word64) (u : Byte) : (s.memWrite i u).rsv2 = s.rsv2 := rfl
@[simp] theorem State.memWrite_rsv3 (s : State) (i : Word64) (u : Byte) : (s.memWrite i u).rsv3 = s.rsv3 := rfl
@[simp] theorem State.memWrite_opcode (s : State) (i : Word64) (u : Byte) : (s.memWrite i u).opcode = s.opcode := rfl
@[simp] theorem State.memWrite_masked (s : State) (i : Word64) (u : Byte) : (s.memWrite i u).masked = s.masked := rfl
@[simp] theorem State.memWrite_len7 (s : State) (i : Word64) (u : Byte) : (s.memWrite i u).len7 = s.len7 := rfl
@[simp] theorem State.memWrite_payloadLength (s : State) (i : Word64) (u : Byte) : (s.memWrite i u).payloadLength = s.payloadLength := rfl
@[simp] theorem State.memWrite_maskKey (s : State) (i : Word64) (u : Byte) : (s.memWrite i u).maskKey = s.maskKey := rfl
@[simp] theorem State.memWrite_maskReq (s : State) (i : Word64) (u : Byte) : (s.memWrite i u).maskReq = s.maskReq := rfl
@[simp] theorem State.memWrite_errReason (s : State) (i : Word64) (u : Byte) : (s.memWrite i u).errReason = s.errReason := rfl
@[simp] theorem State.memWrite_pmem (s : State) (i : Word64) (u : Byte) : (s.memWrite i u).pmem = Memory.write s.pmem i.toNat u := rfl
@[simp] theorem State.memWrite_window (s : State) (i : Word64) (u : Byte) : (s.memWrite i u).window = s.window := rfl
@[simp] theorem State.memWrite_pmax (s : State) (i : Word64) (u : Byte) : (s.memWrite i u).pmax = s.pmax := rfl
@[simp] theorem State.memWrite_pins (s : State) (i : Word64) (u : Byte) : (s.memWrite i u).pins = s.pins := rfl
@[simp] theorem State.memWrite_pending (s : State) (i : Word64) (u : Byte) : (s.memWrite i u).pending = s.pending := rfl
@[simp] theorem State.memWrite_out (s : State) (i : Word64) (u : Byte) : (s.memWrite i u).out = .consumed .incomplete .none .none (some ⟨i, u⟩) := rfl

@[simp] theorem raiseProtocolError_phase (s : State) (r : ErrReason) : (raiseProtocolError r s).phase = .err := rfl
@[simp] theorem raiseProtocolError_cnt (s : State) (r : ErrReason) : (raiseProtocolError r s).cnt = s.cnt := rfl
@[simp] theorem raiseProtocolError_payCnt (s : State) (r : ErrReason) : (raiseProtocolError r s).payCnt = s.payCnt := rfl
@[simp] theorem raiseProtocolError_fin (s : State) (r : ErrReason) : (raiseProtocolError r s).fin = s.fin := rfl
@[simp] theorem raiseProtocolError_rsv1 (s : State) (r : ErrReason) : (raiseProtocolError r s).rsv1 = s.rsv1 := rfl
@[simp] theorem raiseProtocolError_rsv2 (s : State) (r : ErrReason) : (raiseProtocolError r s).rsv2 = s.rsv2 := rfl
@[simp] theorem raiseProtocolError_rsv3 (s : State) (r : ErrReason) : (raiseProtocolError r s).rsv3 = s.rsv3 := rfl
@[simp] theorem raiseProtocolError_opcode (s : State) (r : ErrReason) : (raiseProtocolError r s).opcode = s.opcode := rfl
@[simp] theorem raiseProtocolError_masked (s : State) (r : ErrReason) : (raiseProtocolError r s).masked = s.masked := rfl
@[simp] theorem raiseProtocolError_len7 (s : State) (r : ErrReason) : (raiseProtocolError r s).len7 = s.len7 := rfl
@[simp] theorem raiseProtocolError_payloadLength (s : State) (r : ErrReason) : (raiseProtocolError r s).payloadLength = s.payloadLength := rfl
@[simp] theorem raiseProtocolError_maskKey (s : State) (r : ErrReason) : (raiseProtocolError r s).maskKey = s.maskKey := rfl
@[simp] theorem raiseProtocolError_maskReq (s : State) (r : ErrReason) : (raiseProtocolError r s).maskReq = s.maskReq := rfl
@[simp] theorem raiseProtocolError_errReason (s : State) (r : ErrReason) : (raiseProtocolError r s).errReason = r := rfl
@[simp] theorem raiseProtocolError_pmem (s : State) (r : ErrReason) : (raiseProtocolError r s).pmem = s.pmem := rfl
@[simp] theorem raiseProtocolError_window (s : State) (r : ErrReason) : (raiseProtocolError r s).window = s.window := rfl
@[simp] theorem raiseProtocolError_pmax (s : State) (r : ErrReason) : (raiseProtocolError r s).pmax = s.pmax := rfl
@[simp] theorem raiseProtocolError_pins (s : State) (r : ErrReason) : (raiseProtocolError r s).pins = s.pins := rfl
@[simp] theorem raiseProtocolError_pending (s : State) (r : ErrReason) : (raiseProtocolError r s).pending = s.pending := rfl
@[simp] theorem raiseProtocolError_out (s : State) (r : ErrReason) : (raiseProtocolError r s).out = s.out.withSignal .protocolError r .none := rfl

@[simp] theorem idleCycle_phase (s : State) : (idleCycle s).phase = s.phase := rfl
@[simp] theorem idleCycle_cnt (s : State) : (idleCycle s).cnt = s.cnt := rfl
@[simp] theorem idleCycle_payCnt (s : State) : (idleCycle s).payCnt = s.payCnt := rfl
@[simp] theorem idleCycle_fin (s : State) : (idleCycle s).fin = s.fin := rfl
@[simp] theorem idleCycle_rsv1 (s : State) : (idleCycle s).rsv1 = s.rsv1 := rfl
@[simp] theorem idleCycle_rsv2 (s : State) : (idleCycle s).rsv2 = s.rsv2 := rfl
@[simp] theorem idleCycle_rsv3 (s : State) : (idleCycle s).rsv3 = s.rsv3 := rfl
@[simp] theorem idleCycle_opcode (s : State) : (idleCycle s).opcode = s.opcode := rfl
@[simp] theorem idleCycle_masked (s : State) : (idleCycle s).masked = s.masked := rfl
@[simp] theorem idleCycle_len7 (s : State) : (idleCycle s).len7 = s.len7 := rfl
@[simp] theorem idleCycle_payloadLength (s : State) : (idleCycle s).payloadLength = s.payloadLength := rfl
@[simp] theorem idleCycle_maskKey (s : State) : (idleCycle s).maskKey = s.maskKey := rfl
@[simp] theorem idleCycle_maskReq (s : State) : (idleCycle s).maskReq = s.maskReq := rfl
@[simp] theorem idleCycle_errReason (s : State) : (idleCycle s).errReason = s.errReason := rfl
@[simp] theorem idleCycle_pmem (s : State) : (idleCycle s).pmem = s.pmem := rfl
@[simp] theorem idleCycle_window (s : State) : (idleCycle s).window = s.window := rfl
@[simp] theorem idleCycle_pmax (s : State) : (idleCycle s).pmax = s.pmax := rfl
@[simp] theorem idleCycle_pins (s : State) : (idleCycle s).pins = s.pins := rfl
@[simp] theorem idleCycle_pending (s : State) : (idleCycle s).pending = s.pending := rfl
@[simp] theorem idleCycle_out (s : State) : (idleCycle s).out = .idle := rfl

@[simp] theorem resetCycle_phase (s : State) : (resetCycle s).phase = .b0 := rfl
@[simp] theorem resetCycle_cnt (s : State) : (resetCycle s).cnt = 0#4 := rfl
@[simp] theorem resetCycle_payCnt (s : State) : (resetCycle s).payCnt = 0#64 := rfl
@[simp] theorem resetCycle_fin (s : State) : (resetCycle s).fin = false := rfl
@[simp] theorem resetCycle_rsv1 (s : State) : (resetCycle s).rsv1 = false := rfl
@[simp] theorem resetCycle_rsv2 (s : State) : (resetCycle s).rsv2 = false := rfl
@[simp] theorem resetCycle_rsv3 (s : State) : (resetCycle s).rsv3 = false := rfl
@[simp] theorem resetCycle_opcode (s : State) : (resetCycle s).opcode = 0x0#4 := rfl
@[simp] theorem resetCycle_masked (s : State) : (resetCycle s).masked = false := rfl
@[simp] theorem resetCycle_len7 (s : State) : (resetCycle s).len7 = 0#7 := rfl
@[simp] theorem resetCycle_payloadLength (s : State) : (resetCycle s).payloadLength = 0#64 := rfl
@[simp] theorem resetCycle_maskKey (s : State) : (resetCycle s).maskKey = zeroKey := rfl
@[simp] theorem resetCycle_maskReq (s : State) : (resetCycle s).maskReq = s.pins.cfgMaskRequired := rfl
@[simp] theorem resetCycle_errReason (s : State) : (resetCycle s).errReason = .none := rfl
@[simp] theorem resetCycle_pmem (s : State) : (resetCycle s).pmem = s.pmem := rfl
@[simp] theorem resetCycle_window (s : State) : (resetCycle s).window = s.window := rfl
@[simp] theorem resetCycle_pmax (s : State) : (resetCycle s).pmax = s.pmax := rfl
@[simp] theorem resetCycle_pins (s : State) : (resetCycle s).pins = s.pins := rfl
@[simp] theorem resetCycle_pending (s : State) : (resetCycle s).pending = s.pending := rfl
@[simp] theorem resetCycle_out (s : State) : (resetCycle s).out = .resetCycle := rfl

@[simp] theorem newFrame_phase (s : State) (h : ByteZero) : (newFrame h s).phase = s.phase := rfl
@[simp] theorem newFrame_cnt (s : State) (h : ByteZero) : (newFrame h s).cnt = 0#4 := rfl
@[simp] theorem newFrame_payCnt (s : State) (h : ByteZero) : (newFrame h s).payCnt = 0#64 := rfl
@[simp] theorem newFrame_fin (s : State) (h : ByteZero) : (newFrame h s).fin = h.fin := rfl
@[simp] theorem newFrame_rsv1 (s : State) (h : ByteZero) : (newFrame h s).rsv1 = h.rsv1 := rfl
@[simp] theorem newFrame_rsv2 (s : State) (h : ByteZero) : (newFrame h s).rsv2 = h.rsv2 := rfl
@[simp] theorem newFrame_rsv3 (s : State) (h : ByteZero) : (newFrame h s).rsv3 = h.rsv3 := rfl
@[simp] theorem newFrame_opcode (s : State) (h : ByteZero) : (newFrame h s).opcode = h.opcode := rfl
@[simp] theorem newFrame_masked (s : State) (h : ByteZero) : (newFrame h s).masked = false := rfl
@[simp] theorem newFrame_len7 (s : State) (h : ByteZero) : (newFrame h s).len7 = 0#7 := rfl
@[simp] theorem newFrame_payloadLength (s : State) (h : ByteZero) : (newFrame h s).payloadLength = 0#64 := rfl
@[simp] theorem newFrame_maskKey (s : State) (h : ByteZero) : (newFrame h s).maskKey = zeroKey := rfl
@[simp] theorem newFrame_maskReq (s : State) (h : ByteZero) : (newFrame h s).maskReq = s.maskReq := rfl
@[simp] theorem newFrame_errReason (s : State) (h : ByteZero) : (newFrame h s).errReason = s.errReason := rfl
@[simp] theorem newFrame_pmem (s : State) (h : ByteZero) : (newFrame h s).pmem = s.pmem := rfl
@[simp] theorem newFrame_window (s : State) (h : ByteZero) : (newFrame h s).window = s.window := rfl
@[simp] theorem newFrame_pmax (s : State) (h : ByteZero) : (newFrame h s).pmax = s.pmax := rfl
@[simp] theorem newFrame_pins (s : State) (h : ByteZero) : (newFrame h s).pins = s.pins := rfl
@[simp] theorem newFrame_pending (s : State) (h : ByteZero) : (newFrame h s).pending = s.pending := rfl
@[simp] theorem newFrame_out (s : State) (h : ByteZero) : (newFrame h s).out = s.out := rfl

@[simp] theorem State.withFetchWord_phase (s : State) (n w : Nat) : (s.withFetchWord n w).phase = .b0 := rfl
@[simp] theorem State.withFetchWord_cnt (s : State) (n w : Nat) : (s.withFetchWord n w).cnt = s.cnt := rfl
@[simp] theorem State.withFetchWord_payCnt (s : State) (n w : Nat) : (s.withFetchWord n w).payCnt = s.payCnt := rfl
@[simp] theorem State.withFetchWord_fin (s : State) (n w : Nat) : (s.withFetchWord n w).fin = s.fin := rfl
@[simp] theorem State.withFetchWord_rsv1 (s : State) (n w : Nat) : (s.withFetchWord n w).rsv1 = s.rsv1 := rfl
@[simp] theorem State.withFetchWord_rsv2 (s : State) (n w : Nat) : (s.withFetchWord n w).rsv2 = s.rsv2 := rfl
@[simp] theorem State.withFetchWord_rsv3 (s : State) (n w : Nat) : (s.withFetchWord n w).rsv3 = s.rsv3 := rfl
@[simp] theorem State.withFetchWord_opcode (s : State) (n w : Nat) : (s.withFetchWord n w).opcode = s.opcode := rfl
@[simp] theorem State.withFetchWord_masked (s : State) (n w : Nat) : (s.withFetchWord n w).masked = s.masked := rfl
@[simp] theorem State.withFetchWord_len7 (s : State) (n w : Nat) : (s.withFetchWord n w).len7 = s.len7 := rfl
@[simp] theorem State.withFetchWord_payloadLength (s : State) (n w : Nat) : (s.withFetchWord n w).payloadLength = s.payloadLength := rfl
@[simp] theorem State.withFetchWord_maskKey (s : State) (n w : Nat) : (s.withFetchWord n w).maskKey = s.maskKey := rfl
@[simp] theorem State.withFetchWord_maskReq (s : State) (n w : Nat) : (s.withFetchWord n w).maskReq = s.maskReq := rfl
@[simp] theorem State.withFetchWord_errReason (s : State) (n w : Nat) : (s.withFetchWord n w).errReason = .none := rfl
@[simp] theorem State.withFetchWord_pmem (s : State) (n w : Nat) : (s.withFetchWord n w).pmem = s.pmem := rfl
@[simp] theorem State.withFetchWord_window (s : State) (n w : Nat) : (s.withFetchWord n w).window = s.window := rfl
@[simp] theorem State.withFetchWord_pmax (s : State) (n w : Nat) : (s.withFetchWord n w).pmax = s.pmax := rfl
@[simp] theorem State.withFetchWord_pins (s : State) (n w : Nat) : (s.withFetchWord n w).pins = s.pins := rfl
@[simp] theorem State.withFetchWord_pending (s : State) (n w : Nat) : (s.withFetchWord n w).pending = byteCycles (tableBytes n w) ++ s.pending := rfl
@[simp] theorem State.withFetchWord_out (s : State) (n w : Nat) : (s.withFetchWord n w).out = s.out := rfl

end Sys2Proof.Machine
end

