-- ==== Sys2Proof/Laws/Ops.lean ====
section
/-! SUPPORT. What each shared operation can do, said once: the header procedures by their outcomes, the byte steps by
phase, an instruction by its opcode and operand bits, and a step by its clock cycle. -/

namespace Sys2Proof.Machine

@[simp] theorem Outputs.withSignal_consumed (g g' : Sig) (r r' : ErrReason) (a a' : CtlAction)
    (w : Option PayloadWrite) : (Outputs.consumed g r a w).withSignal g' r' a' = .consumed g' r' a' w := rfl

/-- `raise ProtocolError` is PHASE, ERR_REASON and the signal; `emit` is the signal (R190, R11). -/
theorem raise_eq (r : ErrReason) (s : State) :
    raiseProtocolError r s =
      { s with phase := .err, errReason := r, out := s.out.withSignal .protocolError r .none } := rfl

theorem frameComplete_eq (s : State) :
    frameComplete s =
      { s with phase := .b0, out := s.out.withSignal .frameComplete .none (completionAction s.opcode) } := rfl

theorem completionAction_eq {op : BitVec 4} {t : FrameType} (h : registryType op = some t) :
    completionAction op = ctlActionOf t := by
  simp [completionAction, h]

/-- What `header_complete` can do (R127). -/
theorem headerComplete_cases (plen : Word64) (s : State) :
    (plen = 0#64 ∧ headerComplete plen s = frameComplete s) ∨
      (plen ≠ 0#64 ∧ headerComplete plen s =
        { s with phase := .pay, payCnt := 0#64, out := s.out.withSignal .incomplete .none .none }) := by
  unfold headerComplete
  split
  · exact .inl ⟨‹_›, rfl⟩
  · exact .inr ⟨‹_›, rfl⟩

/-- What `length_known` can do (R126). -/
theorem lengthKnown_cases (fin : Bool) (op : BitVec 4) (plen : Word64) (masked : Bool) (s : State) :
    (isControlOp op = true ∧ fin = false ∧
        lengthKnown fin op plen masked s = raiseProtocolError .ctrlFrag s) ∨
      (isControlOp op = true ∧ fin = true ∧ plen > 125#64 ∧
        lengthKnown fin op plen masked s = raiseProtocolError .ctrlLen s) ∨
      ((isControlOp op = true → fin = true ∧ plen ≤ 125#64) ∧ masked = true ∧
        lengthKnown fin op plen masked s =
          { s with phase := .key, cnt := 0#4, out := s.out.withSignal .incomplete .none .none }) ∨
      ((isControlOp op = true → fin = true ∧ plen ≤ 125#64) ∧ masked = false ∧
        lengthKnown fin op plen masked s = headerComplete plen s) := by
  unfold lengthKnown
  split
  · next h => exact .inl ⟨h.1, h.2, rfl⟩
  · next h =>
    have hf : isControlOp op = true → fin = true := fun hc => by
      cases hfin : fin
      · exact absurd ⟨hc, hfin⟩ h
      · rfl
    split
    · next h2 => exact .inr (.inl ⟨h2.1, hf h2.1, h2.2, rfl⟩)
    · next h2 =>
      have hl : isControlOp op = true → fin = true ∧ plen ≤ 125#64 := fun hc =>
        ⟨hf hc, BitVec.not_lt.mp fun hlt => h2 ⟨hc, hlt⟩⟩
      split
      · next hm => exact .inr (.inr (.inl ⟨hl, hm, rfl⟩))
      · next hm => exact .inr (.inr (.inr ⟨hl, by simpa using hm, rfl⟩))

/-- What the byte-0 step can do (R121). -/
theorem stepB0_cases (h : ByteZero) (s : State) :
    (registryValid h.opcode = false ∧ stepB0 h s = raiseProtocolError .opcode (newFrame h s)) ∨
      (registryValid h.opcode = true ∧ (h.rsv1 = true ∨ h.rsv2 = true ∨ h.rsv3 = true) ∧
        stepB0 h s = raiseProtocolError .rsv (newFrame h s)) ∨
      (registryValid h.opcode = true ∧ h.rsv1 = false ∧ h.rsv2 = false ∧ h.rsv3 = false ∧
        stepB0 h s =
          { newFrame h s with phase := .b1, out := s.out.withSignal .incomplete .none .none }) := by
  unfold stepB0
  split
  · next hv => exact .inl ⟨hv, rfl⟩
  · next hv =>
    have hv' : registryValid h.opcode = true := by simpa using hv
    split
    · next hr => exact .inr (.inl ⟨hv', hr, rfl⟩)
    · next hr => exact .inr (.inr ⟨hv', by simp_all, by simp_all, by simp_all, rfl⟩)

/-- What the byte-1 step can do (R122, R123). -/
theorem stepB1_cases (b : Byte) (s : State) :
    (maskBit b ≠ s.maskReq ∧
        stepB1 b s = raiseProtocolError .mask { s with masked := maskBit b, len7 := lengthIndicator b }) ∨
      (maskBit b = s.maskReq ∧ lengthIndicator b ≤ 125#7 ∧
        stepB1 b s = lengthKnown s.fin s.opcode (literalLength (lengthIndicator b)) (maskBit b)
          { s with masked := maskBit b, len7 := lengthIndicator b,
                   payloadLength := literalLength (lengthIndicator b) }) ∨
      (maskBit b = s.maskReq ∧ ¬lengthIndicator b ≤ 125#7 ∧
        stepB1 b s =
          { s with masked := maskBit b, len7 := lengthIndicator b, phase := .ext, cnt := 0#4,
                   out := s.out.withSignal .incomplete .none .none }) := by
  by_cases hm : maskBit b = s.maskReq
  · have e : stepB1 b s = chooseLengthPath (maskBit b) (lengthIndicator b)
        { s with masked := maskBit b, len7 := lengthIndicator b } := if_neg (not_not.mpr hm)
    rw [e]
    by_cases hl : lengthIndicator b ≤ 125#7
    · exact .inr (.inl ⟨hm, hl, if_pos hl⟩)
    · exact .inr (.inr ⟨hm, hl, if_neg hl⟩)
  · exact .inl ⟨hm, if_pos hm⟩

/-- What the extended-length step can do (R124). -/
theorem stepExt_cases (b : Byte) (s : State) :
    (s.cnt + 1#4 = extNeed s.len7 ∧
        stepExt b s = lengthKnown s.fin s.opcode (appendLengthByte s.payloadLength b) s.masked
          { s with payloadLength := appendLengthByte s.payloadLength b, cnt := s.cnt + 1#4 }) ∨
      (s.cnt + 1#4 ≠ extNeed s.len7 ∧
        stepExt b s =
          { s with payloadLength := appendLengthByte s.payloadLength b, cnt := s.cnt + 1#4,
                   out := s.out.withSignal .incomplete .none .none }) := by
  unfold stepExt
  dsimp only
  split
  · exact .inl ⟨‹_›, rfl⟩
  · exact .inr ⟨‹_›, rfl⟩

/-- What the mask-key step can do (R125). -/
theorem stepKey_cases (b : Byte) (s : State) :
    (s.cnt + 1#4 = 4#4 ∧
        stepKey b s = headerComplete s.payloadLength
          { s with maskKey := setKeyByte s.maskKey s.cnt.toNat b, cnt := s.cnt + 1#4 }) ∨
      (s.cnt + 1#4 ≠ 4#4 ∧
        stepKey b s =
          { s with maskKey := setKeyByte s.maskKey s.cnt.toNat b, cnt := s.cnt + 1#4,
                   out := s.out.withSignal .incomplete .none .none }) := by
  unfold stepKey
  dsimp only
  split
  · exact .inl ⟨‹_›, rfl⟩
  · exact .inr ⟨‹_›, rfl⟩

/-- What the payload step can do, PMAX aside (R140). -/
theorem storePayload_cases (b : Byte) (s : State) :
    (s.payCnt + 1#64 = s.payloadLength ∧
        storePayload b s =
          { s with
            pmem := Memory.write s.pmem s.payCnt.toNat (unmask b s.payCnt.toNat s.maskKey)
            payCnt := s.payCnt + 1#64
            window := s.payloadLength
            phase := .b0
            out := .consumed .frameComplete .none (completionAction s.opcode)
              (some ⟨s.payCnt, unmask b s.payCnt.toNat s.maskKey⟩) }) ∨
      (s.payCnt + 1#64 ≠ s.payloadLength ∧
        storePayload b s =
          { s with
            pmem := Memory.write s.pmem s.payCnt.toNat (unmask b s.payCnt.toNat s.maskKey)
            payCnt := s.payCnt + 1#64
            window := 0#64
            out := .consumed .incomplete .none .none
              (some ⟨s.payCnt, unmask b s.payCnt.toNat s.maskKey⟩) }) := by
  unfold storePayload
  dsimp only
  split
  · next h => exact .inl ⟨h, by simp [frameComplete_eq, State.memWrite, Outputs.withSignal]⟩
  · next h => exact .inr ⟨h, by simp [State.emit, State.memWrite, Outputs.withSignal]⟩

/-- The fields of byte 0 of an instruction. -/
def byteZeroOf (i : Instr) : ByteZero := ⟨i.fin, i.rsv1, i.rsv2, i.rsv3, i.opcode⟩

/-- Every arm is one byte of the frame its instruction starts. -/
theorem exec_eq (i : Instr) (s : State) : exec i s = frameByte (byteZeroOf i) s := by
  cases i <;> rfl

theorem frameByte_b0 {s : State} (h : ByteZero) (hp : s.phase = .b0) :
    frameByte h s = .next (stepB0 h s.beginStep) := by
  simp only [frameByte, State.beginStep_phase, hp]

theorem frameByte_b1 {s : State} (h : ByteZero) (hp : s.phase = .b1) :
    frameByte h s = .next (stepB1 s.pins.inByte s.beginStep) := by
  simp only [frameByte, State.beginStep_phase, State.beginStep_pins, hp]

theorem frameByte_ext {s : State} (h : ByteZero) (hp : s.phase = .ext) :
    frameByte h s = .next (stepExt s.pins.inByte s.beginStep) := by
  simp only [frameByte, State.beginStep_phase, State.beginStep_pins, hp]

theorem frameByte_key {s : State} (h : ByteZero) (hp : s.phase = .key) :
    frameByte h s = .next (stepKey s.pins.inByte s.beginStep) := by
  simp only [frameByte, State.beginStep_phase, State.beginStep_pins, hp]

theorem exceedsPmax_beginStep (s : State) : exceedsPmax s.beginStep = exceedsPmax s := rfl

theorem frameByte_pay {s : State} (h : ByteZero) (hp : s.phase = .pay) :
    frameByte h s = stepPay s.pins.inByte s.beginStep := by
  simp only [frameByte, State.beginStep_phase, State.beginStep_pins, hp]

theorem frameByte_err {s : State} (h : ByteZero) (hp : s.phase = .err) :
    frameByte h s = .next (stepErr s.beginStep) := by
  simp only [frameByte, State.beginStep_phase, hp]

/-- What an instruction's byte can do when it has a next state: one case per phase. -/
theorem exec_cases {i : Instr} {s t : State} (h : exec i s = .next t) :
    (s.phase = .b0 ∧ t = stepB0 (byteZeroOf i) s.beginStep) ∨
      (s.phase = .b1 ∧ t = stepB1 s.pins.inByte s.beginStep) ∨
      (s.phase = .ext ∧ t = stepExt s.pins.inByte s.beginStep) ∨
      (s.phase = .key ∧ t = stepKey s.pins.inByte s.beginStep) ∨
      (s.phase = .pay ∧ exceedsPmax s = false ∧ t = storePayload s.pins.inByte s.beginStep) ∨
      (s.phase = .err ∧ t = stepErr s.beginStep) := by
  rw [exec_eq] at h
  cases hp : s.phase
  · rw [frameByte_b0 _ hp] at h; injection h with h; simp [h]
  · rw [frameByte_b1 _ hp] at h; injection h with h; simp [h]
  · rw [frameByte_ext _ hp] at h; injection h with h; simp [h]
  · rw [frameByte_key _ hp] at h; injection h with h; simp [h]
  · rw [frameByte_pay _ hp, stepPay, exceedsPmax_beginStep] at h
    split at h
    · cases h
    · next he => injection h with h; simp [h, he]
  · rw [frameByte_err _ hp] at h; injection h with h; simp [h]

/-- The instruction in flight, by its fields. -/
theorem decodeByte_fields (b : Byte) :
    (decodeByte b).fin = b.getLsbD 7 ∧ (decodeByte b).rsv1 = b.getLsbD 6 ∧ (decodeByte b).rsv2 = b.getLsbD 5 ∧
      (decodeByte b).rsv3 = b.getLsbD 4 ∧ (decodeByte b).opcode = b.extractLsb' 0 4 := by
  revert b; decide

/-- What one clock cycle can do when it has a next state: a reset, a byte, or an idle cycle. -/
theorem clockCycle_cases {s t : State} (h : clockCycle s = .next t) :
    (s.pins.rst = true ∧ t = resetCycle s) ∨
      (s.pins.rst = false ∧ s.pins.inValid = true ∧ exec (instrInFlight s) s = .next t) ∨
      (s.pins.rst = false ∧ s.pins.inValid = false ∧ t = idleCycle s) := by
  unfold clockCycle at h
  split at h
  · next hr => injection h with h; exact .inl ⟨hr, h.symm⟩
  · next hr =>
    have hr' : s.pins.rst = false := by simpa using hr
    split at h
    · next hv => exact .inr (.inl ⟨hr', hv, h⟩)
    · next hv => injection h with h; exact .inr (.inr ⟨hr', by simpa using hv, h.symm⟩)

/-- The state whose pins a step runs: the next cycle's, or the host's withholding. -/
def State.nextCycle (s : State) : State :=
  match s.pending with
  | [] => s.withhold
  | p :: rest => s.latch p rest

theorem step_eq (s : State) : step s = clockCycle s.nextCycle := by
  unfold step State.nextCycle
  cases s.pending <;> rfl

/-- Latching the pins changes no register, no PMEM cell and no output. -/
theorem nextCycle_fields (s : State) :
    s.nextCycle = { s with pins := s.nextCycle.pins, pending := s.nextCycle.pending } := by
  unfold State.nextCycle
  cases s.pending <;> rfl

end Sys2Proof.Machine
end

