-- ==== Sys2Proof/Laws/Observe.lean ====
section
/-! SUPPORT. What the consumer's reads, the frame decoder's cuts and a run of several steps can do, each said once. -/

namespace Sys2Proof

theorem takeExactly_append (l r : List Byte) : takeExactly l.length (l ++ r) = some (l, r) := by
  simp [takeExactly]

theorem takeExactly_eq_some {n : Nat} {bs l r : List Byte} (h : takeExactly n bs = some (l, r)) :
    bs = l ++ r ∧ l.length = n := by
  unfold takeExactly at h
  split at h
  · next hn =>
    simp only [Option.some.injEq, Prod.mk.injEq] at h
    obtain ⟨rfl, rfl⟩ := h
    exact ⟨(List.take_append_drop n bs).symm, by simpa using hn⟩
  · cases h

end Sys2Proof

namespace Sys2Proof.Machine

/-- What the consumer's read can do: the cell's byte inside the window, where every cell is written, and a free value of
the read's number outside it (R63, R67, R72). -/
theorem memRead_cases (s : State) (a : Word64) (d : Nat) :
    (a < s.window ∧ ((∃ b, Memory.read s.pmem a.toNat = some b ∧ memRead s a d = b) ∨
        (Memory.read s.pmem a.toNat = none ∧ memRead s a d = Config.unspecifiedByte d))) ∨
      (¬a < s.window ∧ memRead s a d = Config.unspecifiedByte d) := by
  unfold memRead
  split
  · next h => cases hr : Memory.read s.pmem a.toNat <;> simp [h]
  · next h => exact .inr ⟨h, rfl⟩

/-- Steps that leave PMEM and the window leave every read. -/
theorem memRead_congr {s t : State} (hm : t.pmem = s.pmem) (hw : t.window = s.window) (a : Word64) (d : Nat) :
    memRead t a d = memRead s a d := by
  simp [memRead, hm, hw]

/-- A payload read back is the list of the cells from `a` on. -/
theorem readPayload_eq_some {m : Memory} {a n : Nat} {l : List Byte} :
    readPayload m a n = some l ↔ l.length = n ∧ ∀ j, j < n → Memory.read m (a + j) = l[j]? := by
  induction n generalizing a l with
  | zero => cases l <;> simp [readPayload]
  | succ n ih =>
    unfold readPayload
    cases hb : Memory.read m a with
    | none =>
      simp only [reduceCtorEq, false_iff, not_and]
      intro hl hall
      have h0 := hall 0 (by omega)
      rw [Nat.add_zero, hb] at h0
      simp_all
    | some b =>
      simp only [Option.map_eq_some_iff]
      constructor
      · rintro ⟨l', hl', rfl⟩
        obtain ⟨hlen, hall⟩ := ih.mp hl'
        refine ⟨by simp [hlen], fun j hj => ?_⟩
        cases j with
        | zero => simpa using hb
        | succ j => simpa [Nat.add_comm, Nat.add_left_comm] using hall j (by omega)
      · rintro ⟨hlen, hall⟩
        cases l with
        | nil => simp at hlen
        | cons c l =>
          have h0 := hall 0 (by omega)
          rw [Nat.add_zero, hb] at h0
          have hc : c = b := by simpa using h0.symm
          subst hc
          refine ⟨l, ih.mpr ⟨by simpa using hlen, fun j hj => ?_⟩, rfl⟩
          simpa [Nat.add_comm, Nat.add_left_comm] using hall (j + 1) (by omega)

/-- A run of `j + k` steps is a run of `j` and then one of `k`. -/
theorem run_add {j k : Nat} {s t : State} (h : Host.Core.run Sys2Proof.core j s = .next t) :
    Host.Core.run Sys2Proof.core (j + k) s = Host.Core.run Sys2Proof.core k t := by
  induction j generalizing s with
  | zero =>
    rw [Nat.zero_add]
    simp only [Host.Core.run] at h
    injection h with h
    rw [h]
  | succ j ih =>
    rw [Nat.succ_add]
    simp only [Host.Core.run] at h ⊢
    split at h
    · exact ih h
    · cases h
    · cases h

/-- A cycle that feeds a byte runs the instruction in flight (R42). -/
theorem step_byteCycle {s : State} {b : Byte} {rest : List Pins} (h : s.pending = byteCycle b :: rest) :
    step s = exec (instrInFlight (s.latch (byteCycle b) rest)) (s.latch (byteCycle b) rest) := by
  unfold step
  rw [h]
  rfl

end Sys2Proof.Machine
end

