-- ==== Sys2Proof/Laws/PerInstr.lean ====
section
/-! SUPPORT. The per-instruction family TableMatch: the start word of an instruction matches its row of the opcode table
(30_encoding.md R89), one lemma per constructor. -/

/-- Byte 0 of the instruction is the high byte of the start word `H`, and `H & 0x0F00` is the row's match, whatever FIN,
the reserved bits and byte 1 are. -/
def Sys2Proof.Laws.TableMatch.Statement (i : Sys2Proof.Instr) : Prop :=
  ∀ b1 : Sys2Proof.Byte,
    (Sys2Proof.encodeByte i ++ b1) &&& 0x0F00#16 = (i.opcode.setWidth 16) <<< 8

/-- The mask keeps the opcode nibble and nothing else. -/
theorem Sys2Proof.Laws.startWord_mask (fin rsv1 rsv2 rsv3 : Bool) (op : BitVec 4) (b1 : Sys2Proof.Byte) :
    (Sys2Proof.byteZero fin rsv1 rsv2 rsv3 op ++ b1) &&& 0x0F00#16 = (op.setWidth 16) <<< 8 := by
  have h : ∀ b0 : Sys2Proof.Byte, (b0 ++ b1) &&& 0x0F00#16 = ((b0 &&& 0x0F#8).setWidth 16) <<< 8 := by
    intro b0
    apply BitVec.eq_of_getLsbD_eq
    intro k hk
    simp only [BitVec.getLsbD_and, BitVec.getLsbD_append, BitVec.getLsbD_shiftLeft, BitVec.getLsbD_setWidth]
    interval_cases k <;> simp
  have h' : Sys2Proof.byteZero fin rsv1 rsv2 rsv3 op &&& 0x0F#8 = op.setWidth 8 := by
    revert fin rsv1 rsv2 rsv3 op; decide
  rw [h, h']
  clear h h'; revert op; decide

theorem Sys2Proof.Laws.TableMatch.cont (fin rsv1 rsv2 rsv3 : Bool) :
    Sys2Proof.Laws.TableMatch.Statement (.cont fin rsv1 rsv2 rsv3) :=
  Sys2Proof.Laws.startWord_mask fin rsv1 rsv2 rsv3 _

theorem Sys2Proof.Laws.TableMatch.text (fin rsv1 rsv2 rsv3 : Bool) :
    Sys2Proof.Laws.TableMatch.Statement (.text fin rsv1 rsv2 rsv3) :=
  Sys2Proof.Laws.startWord_mask fin rsv1 rsv2 rsv3 _

theorem Sys2Proof.Laws.TableMatch.bin (fin rsv1 rsv2 rsv3 : Bool) :
    Sys2Proof.Laws.TableMatch.Statement (.bin fin rsv1 rsv2 rsv3) :=
  Sys2Proof.Laws.startWord_mask fin rsv1 rsv2 rsv3 _

theorem Sys2Proof.Laws.TableMatch.close (fin rsv1 rsv2 rsv3 : Bool) :
    Sys2Proof.Laws.TableMatch.Statement (.close fin rsv1 rsv2 rsv3) :=
  Sys2Proof.Laws.startWord_mask fin rsv1 rsv2 rsv3 _

theorem Sys2Proof.Laws.TableMatch.ping (fin rsv1 rsv2 rsv3 : Bool) :
    Sys2Proof.Laws.TableMatch.Statement (.ping fin rsv1 rsv2 rsv3) :=
  Sys2Proof.Laws.startWord_mask fin rsv1 rsv2 rsv3 _

theorem Sys2Proof.Laws.TableMatch.pong (fin rsv1 rsv2 rsv3 : Bool) :
    Sys2Proof.Laws.TableMatch.Statement (.pong fin rsv1 rsv2 rsv3) :=
  Sys2Proof.Laws.startWord_mask fin rsv1 rsv2 rsv3 _

theorem Sys2Proof.Laws.TableMatch.invalid3 (fin rsv1 rsv2 rsv3 : Bool) :
    Sys2Proof.Laws.TableMatch.Statement (.invalid3 fin rsv1 rsv2 rsv3) :=
  Sys2Proof.Laws.startWord_mask fin rsv1 rsv2 rsv3 _

theorem Sys2Proof.Laws.TableMatch.invalid4 (fin rsv1 rsv2 rsv3 : Bool) :
    Sys2Proof.Laws.TableMatch.Statement (.invalid4 fin rsv1 rsv2 rsv3) :=
  Sys2Proof.Laws.startWord_mask fin rsv1 rsv2 rsv3 _

theorem Sys2Proof.Laws.TableMatch.invalid5 (fin rsv1 rsv2 rsv3 : Bool) :
    Sys2Proof.Laws.TableMatch.Statement (.invalid5 fin rsv1 rsv2 rsv3) :=
  Sys2Proof.Laws.startWord_mask fin rsv1 rsv2 rsv3 _

theorem Sys2Proof.Laws.TableMatch.invalid6 (fin rsv1 rsv2 rsv3 : Bool) :
    Sys2Proof.Laws.TableMatch.Statement (.invalid6 fin rsv1 rsv2 rsv3) :=
  Sys2Proof.Laws.startWord_mask fin rsv1 rsv2 rsv3 _

theorem Sys2Proof.Laws.TableMatch.invalid7 (fin rsv1 rsv2 rsv3 : Bool) :
    Sys2Proof.Laws.TableMatch.Statement (.invalid7 fin rsv1 rsv2 rsv3) :=
  Sys2Proof.Laws.startWord_mask fin rsv1 rsv2 rsv3 _

theorem Sys2Proof.Laws.TableMatch.invalidB (fin rsv1 rsv2 rsv3 : Bool) :
    Sys2Proof.Laws.TableMatch.Statement (.invalidB fin rsv1 rsv2 rsv3) :=
  Sys2Proof.Laws.startWord_mask fin rsv1 rsv2 rsv3 _

theorem Sys2Proof.Laws.TableMatch.invalidC (fin rsv1 rsv2 rsv3 : Bool) :
    Sys2Proof.Laws.TableMatch.Statement (.invalidC fin rsv1 rsv2 rsv3) :=
  Sys2Proof.Laws.startWord_mask fin rsv1 rsv2 rsv3 _

theorem Sys2Proof.Laws.TableMatch.invalidD (fin rsv1 rsv2 rsv3 : Bool) :
    Sys2Proof.Laws.TableMatch.Statement (.invalidD fin rsv1 rsv2 rsv3) :=
  Sys2Proof.Laws.startWord_mask fin rsv1 rsv2 rsv3 _

theorem Sys2Proof.Laws.TableMatch.invalidE (fin rsv1 rsv2 rsv3 : Bool) :
    Sys2Proof.Laws.TableMatch.Statement (.invalidE fin rsv1 rsv2 rsv3) :=
  Sys2Proof.Laws.startWord_mask fin rsv1 rsv2 rsv3 _

theorem Sys2Proof.Laws.TableMatch.invalidF (fin rsv1 rsv2 rsv3 : Bool) :
    Sys2Proof.Laws.TableMatch.Statement (.invalidF fin rsv1 rsv2 rsv3) :=
  Sys2Proof.Laws.startWord_mask fin rsv1 rsv2 rsv3 _
end

