-- ==== Sys2Proof/Tests/Slice0.lean ====
section
/-! SUPPORT. Tests of one step each, with expected results from spec/95_test_vectors.md and the encoding tables of
spec/30_encoding.md, and a witness for every statement that has hypotheses. -/

namespace Sys2Proof.Tests

open Sys2Proof Sys2Proof.Machine

/-! ## Helpers -/

/-- A client-side instance (CFG.MASK_REQ = 0) in a phase, with a byte on the input port. -/
def st (p : Phase) (b : Byte) : State :=
  { State.reset with phase := p, maskReq := false, pins := byteCycle b, out := .idle }

/-- The same inside a final frame of a valid type. -/
def inFrame (p : Phase) (op : BitVec 4) (b : Byte) : State := { st p b with fin := true, opcode := op }

/-- The outcome is a next state with a property. -/
def nextWith (o : Outcome) (p : State → Bool) : Bool :=
  match o with
  | .next t => p t
  | .fault _ => false
  | .refused _ => false

/-- The outcome is a next state with these outputs, phase, PAYLOAD_LENGTH and CNT. -/
def nextIs (o : Outcome) (out : Outputs) (ph : Phase) (pl : Word64) (cnt : BitVec 4) : Bool :=
  nextWith o fun t =>
    decide (t.out = out) && decide (t.phase = ph) && decide (t.payloadLength = pl) && decide (t.cnt = cnt)

/-- Incomplete with no store. -/
def inc : Outputs := .consumed .incomplete .none .none none

/-! ## WellFormed refuses ill-formed frames -/

/-- R83, R87: a literal indicator cannot announce 126 bytes. -/
theorem test_wf_refuses_long_literal :
    Frame.wf ⟨.text true false false false, some ⟨none, .literal, List.replicate 126 0x00#8⟩⟩ = false := by
  simp only [Frame.wf, Operands.lengthFits, LenForm.maxLength, List.length_replicate]
  decide

theorem test_wf_takes_longest_literal :
    Frame.wf ⟨.text true false false false, some ⟨none, .literal, List.replicate 125 0x00#8⟩⟩ = true := by
  simp only [Frame.wf, Operands.lengthFits, LenForm.maxLength, List.length_replicate]
  decide

/-- R87: the 16-bit form ends at 65535. -/
theorem test_wf_refuses_long_ext16 :
    Operands.lengthFits ⟨none, .ext16, List.replicate 65536 0x00#8⟩ = false := by
  simp only [Operands.lengthFits, LenForm.maxLength, List.length_replicate]
  decide

/-- R84: the 64-bit form ends at 2^64 - 1. -/
theorem test_wf_refuses_long_ext64 :
    Operands.lengthFits ⟨none, .ext64, List.replicate (2 ^ 64) 0x00#8⟩ = false := by
  simp only [Operands.lengthFits, LenForm.maxLength, List.length_replicate]
  decide

/-- R90: a frame of an invalid opcode is its byte 0. -/
theorem test_wf_refuses_operands_of_invalid :
    Frame.wf ⟨.invalidD true false false false, some ⟨none, .literal, []⟩⟩ = false := by decide

/-- R80: a frame of a valid type has operands. -/
theorem test_wf_refuses_missing_operands : Frame.wf ⟨.cont true false false false, none⟩ = false := by decide

/-! ## Decoding: words written out bit by bit from R81, FIN RSV1 RSV2 RSV3 and the opcode nibble -/

theorem test_decode_cont : decodeByte 0b10000000#8 = .cont true false false false := by decide

theorem test_decode_text : decodeByte 0b01000001#8 = .text false true false false := by decide

theorem test_decode_bin : decodeByte 0b00100010#8 = .bin false false true false := by decide

theorem test_decode_close : decodeByte 0b00011000#8 = .close false false false true := by decide

theorem test_decode_ping : decodeByte 0b10001001#8 = .ping true false false false := by decide

theorem test_decode_pong : decodeByte 0b01001010#8 = .pong false true false false := by decide

theorem test_decode_invalid3 : decodeByte 0b00100011#8 = .invalid3 false false true false := by decide

theorem test_decode_invalid4 : decodeByte 0b00010100#8 = .invalid4 false false false true := by decide

theorem test_decode_invalid5 : decodeByte 0b10000101#8 = .invalid5 true false false false := by decide

theorem test_decode_invalid6 : decodeByte 0b01000110#8 = .invalid6 false true false false := by decide

theorem test_decode_invalid7 : decodeByte 0b00100111#8 = .invalid7 false false true false := by decide

theorem test_decode_invalidB : decodeByte 0b00011011#8 = .invalidB false false false true := by decide

theorem test_decode_invalidC : decodeByte 0b10001100#8 = .invalidC true false false false := by decide

theorem test_decode_invalidD : decodeByte 0b01001101#8 = .invalidD false true false false := by decide

theorem test_decode_invalidE : decodeByte 0b00101110#8 = .invalidE false false true false := by decide

theorem test_decode_invalidF : decodeByte 0b00011111#8 = .invalidF false false false true := by decide

/-- The start word `82 FE` (95_test_vectors.md S2): byte 0 in bits 15 to 8. -/
theorem test_decode_table_word : decodeTableWord 16 0x82FE = some (.bin true false false false) := by decide

/-- An 8-bit row with no operand bits given: byte 0 is the high byte. -/
theorem test_decode_table_word_high_byte : decodeTableWord 16 0x8900 = some (.ping true false false false) := by decide

/-- 95_test_vectors.md V2: the eleven bytes of a masked Text "Hello". -/
theorem test_encode_frame_masked_text :
    encodeFrame ⟨.text true false false false,
      some ⟨some ⟨0x37#8, 0xFA#8, 0x21#8, 0x3D#8⟩, .literal, [0x48#8, 0x65#8, 0x6C#8, 0x6C#8, 0x6F#8]⟩⟩ =
    [0x81#8, 0x85#8, 0x37#8, 0xFA#8, 0x21#8, 0x3D#8, 0x7F#8, 0x9F#8, 0x4D#8, 0x51#8, 0x58#8] := by decide

/-- 95_test_vectors.md V17: the 64-bit form with a small value, and the bytes after the frame. -/
theorem test_decode_frame_ext64 :
    decodeFrame [0x82#8, 0x7F#8, 0x00#8, 0x00#8, 0x00#8, 0x00#8, 0x00#8, 0x00#8, 0x00#8, 0x03#8, 0xAA#8, 0xBB#8, 0xCC#8,
      0x81#8] = .ok (⟨.bin true false false false, some ⟨none, .ext64, [0xAA#8, 0xBB#8, 0xCC#8]⟩⟩, [0x81#8]) := by rfl

/-- 95_test_vectors.md P4: a stream that stops inside a header. -/
theorem test_decode_frame_truncated :
    decodeFrame [0x82#8, 0xFE#8, 0x01#8, 0x00#8, 0xAA#8, 0xBB#8] = .error .truncated := by rfl

theorem test_decode_no_byte : decode [] = .error .noByte := by rfl

/-! ## Byte 0 of each instruction (95_test_vectors.md part 2 and the table of byte 0 in part 3) -/

theorem test_step_cont_byte0 :
    nextWith (step ((st .b0 0x00#8).withFetchWord 16 0x8000))
      (fun t => decide (t.out = inc ∧ t.phase = .b1 ∧ t.fin = true ∧ t.opcode = 0x0#4)) = true := by decide

theorem test_step_text_byte0 :
    nextWith (step ((st .b0 0x00#8).withFetchWord 16 0x8100))
      (fun t => decide (t.out = inc ∧ t.phase = .b1 ∧ t.fin = true ∧ t.opcode = 0x1#4)) = true := by decide

theorem test_step_bin_byte0 :
    nextWith (step ((st .b0 0x00#8).withFetchWord 16 0x8200))
      (fun t => decide (t.out = inc ∧ t.phase = .b1 ∧ t.fin = true ∧ t.opcode = 0x2#4)) = true := by decide

theorem test_step_close_byte0 :
    nextWith (step ((st .b0 0x00#8).withFetchWord 16 0x8800))
      (fun t => decide (t.out = inc ∧ t.phase = .b1 ∧ t.fin = true ∧ t.opcode = 0x8#4)) = true := by decide

theorem test_step_ping_byte0 :
    nextWith (step ((st .b0 0x00#8).withFetchWord 16 0x8900))
      (fun t => decide (t.out = inc ∧ t.phase = .b1 ∧ t.fin = true ∧ t.opcode = 0x9#4)) = true := by decide

theorem test_step_pong_byte0 :
    nextWith (step ((st .b0 0x00#8).withFetchWord 16 0x8A00))
      (fun t => decide (t.out = inc ∧ t.phase = .b1 ∧ t.fin = true ∧ t.opcode = 0xA#4)) = true := by decide

theorem test_step_invalid3_byte0 :
    nextWith (step ((st .b0 0x00#8).withFetchWord 16 0x8300))
      (fun t => decide (t.out = .consumed .protocolError .opcode .none none ∧ t.phase = .err ∧ t.errReason = .opcode ∧
        t.fin = true ∧ t.opcode = 0x3#4)) = true := by decide

theorem test_step_invalid4_byte0 :
    nextWith (step ((st .b0 0x00#8).withFetchWord 16 0x8400))
      (fun t => decide (t.out = .consumed .protocolError .opcode .none none ∧ t.phase = .err ∧ t.errReason = .opcode ∧
        t.fin = true ∧ t.opcode = 0x4#4)) = true := by decide

theorem test_step_invalid5_byte0 :
    nextWith (step ((st .b0 0x00#8).withFetchWord 16 0x8500))
      (fun t => decide (t.out = .consumed .protocolError .opcode .none none ∧ t.phase = .err ∧ t.errReason = .opcode ∧
        t.fin = true ∧ t.opcode = 0x5#4)) = true := by decide

theorem test_step_invalid6_byte0 :
    nextWith (step ((st .b0 0x00#8).withFetchWord 16 0x8600))
      (fun t => decide (t.out = .consumed .protocolError .opcode .none none ∧ t.phase = .err ∧ t.errReason = .opcode ∧
        t.fin = true ∧ t.opcode = 0x6#4)) = true := by decide

theorem test_step_invalid7_byte0 :
    nextWith (step ((st .b0 0x00#8).withFetchWord 16 0x8700))
      (fun t => decide (t.out = .consumed .protocolError .opcode .none none ∧ t.phase = .err ∧ t.errReason = .opcode ∧
        t.fin = true ∧ t.opcode = 0x7#4)) = true := by decide

theorem test_step_invalidB_byte0 :
    nextWith (step ((st .b0 0x00#8).withFetchWord 16 0x8B00))
      (fun t => decide (t.out = .consumed .protocolError .opcode .none none ∧ t.phase = .err ∧ t.errReason = .opcode ∧
        t.fin = true ∧ t.opcode = 0xB#4)) = true := by decide

theorem test_step_invalidC_byte0 :
    nextWith (step ((st .b0 0x00#8).withFetchWord 16 0x8C00))
      (fun t => decide (t.out = .consumed .protocolError .opcode .none none ∧ t.phase = .err ∧ t.errReason = .opcode ∧
        t.fin = true ∧ t.opcode = 0xC#4)) = true := by decide

theorem test_step_invalidD_byte0 :
    nextWith (step ((st .b0 0x00#8).withFetchWord 16 0x8D00))
      (fun t => decide (t.out = .consumed .protocolError .opcode .none none ∧ t.phase = .err ∧ t.errReason = .opcode ∧
        t.fin = true ∧ t.opcode = 0xD#4)) = true := by decide

theorem test_step_invalidE_byte0 :
    nextWith (step ((st .b0 0x00#8).withFetchWord 16 0x8E00))
      (fun t => decide (t.out = .consumed .protocolError .opcode .none none ∧ t.phase = .err ∧ t.errReason = .opcode ∧
        t.fin = true ∧ t.opcode = 0xE#4)) = true := by decide

theorem test_step_invalidF_byte0 :
    nextWith (step ((st .b0 0x00#8).withFetchWord 16 0x8F00))
      (fun t => decide (t.out = .consumed .protocolError .opcode .none none ∧ t.phase = .err ∧ t.errReason = .opcode ∧
        t.fin = true ∧ t.opcode = 0xF#4)) = true := by decide

/-! ## The last byte of a frame of each type -/

/-- 43_frame_types.md R151's example `80 02 6C 6F`: the fourth byte. -/
theorem test_exec_cont_completes :
    nextWith (exec (.cont true false false false)
        { inFrame .pay 0x0#4 0x6F#8 with payloadLength := 2#64, payCnt := 1#64, pmem := [(0, 0x6C#8)] })
      (fun t => decide (t.phase = .b0 ∧ t.pmem = [(0, 0x6C#8), (1, 0x6F#8)] ∧
        t.out = .consumed .frameComplete .none .none (some ⟨1#64, 0x6F#8⟩))) = true := by decide

/-- V2, byte 10: `58` XOR `37`, index 4 mod 4 = 0. -/
theorem test_exec_text_completes :
    nextWith (exec (.text true false false false)
        { inFrame .pay 0x1#4 0x58#8 with
          masked := true, maskKey := ⟨0x37#8, 0xFA#8, 0x21#8, 0x3D#8⟩, payloadLength := 5#64, payCnt := 4#64 })
      (fun t => decide (t.phase = .b0 ∧ t.payCnt = 5#64 ∧
        t.out = .consumed .frameComplete .none .none (some ⟨4#64, 0x6F#8⟩))) = true := by decide

/-- V18, byte 3: zero length through the 16-bit form. -/
theorem test_exec_bin_completes_on_length :
    nextIs (exec (.bin true false false false) { inFrame .ext 0x2#4 0x00#8 with len7 := 126#7, cnt := 1#4 })
      (.consumed .frameComplete .none .none none) .b0 0#64 2#4 = true := by decide

/-- V11, byte 5: the last key byte of an empty masked Close. -/
theorem test_exec_close_completes_on_key :
    nextWith (exec (.close true false false false)
        { inFrame .key 0x8#4 0x04#8 with
          maskReq := true, masked := true, maskKey := ⟨0x01#8, 0x02#8, 0x03#8, 0x00#8⟩, cnt := 3#4 })
      (fun t => decide (t.phase = .b0 ∧ t.cnt = 4#4 ∧ t.maskKey = ⟨0x01#8, 0x02#8, 0x03#8, 0x04#8⟩ ∧ t.pmem = [] ∧
        t.out = .consumed .frameComplete .none .close none)) = true := by decide

/-- V24, byte 3: a Ping whose 16-bit length is 126. -/
theorem test_exec_ping_overlong :
    nextIs (exec (.ping true false false false) { inFrame .ext 0x9#4 0x7E#8 with len7 := 126#7, cnt := 1#4 })
      (.consumed .protocolError .ctrlLen .none none) .err 126#64 2#4 = true := by decide

/-- V21, byte 9: a 64-bit zero length. -/
theorem test_exec_pong_completes_on_length :
    nextIs (exec (.pong true false false false) { inFrame .ext 0xA#4 0x00#8 with len7 := 127#7, cnt := 7#4 })
      (.consumed .frameComplete .none .pong none) .b0 0#64 8#4 = true := by decide

/-! ## The shared operations -/

/-- V14: the opcode check comes before the reserved bits. -/
theorem test_opcode_before_rsv :
    nextWith (step ((st .b0 0x00#8).withFetchWord 16 0xFD00)) (fun t => decide (t.errReason = .opcode)) = true := by decide

/-- V15: the mask check comes before the control-frame check. -/
theorem test_mask_before_ctrl :
    nextIs (exec (.ping false false false false) { st .b1 0x00#8 with opcode := 0x9#4, maskReq := true })
      (.consumed .protocolError .mask .none none) .err 0#64 0#4 = true := by decide

/-- V16, byte 9: the FIN half comes before the length half. -/
theorem test_frag_before_len :
    nextIs (exec (.close false false false false)
        { st .ext 0x7E#8 with opcode := 0x8#4, len7 := 127#7, cnt := 7#4, maskReq := true, masked := true })
      (.consumed .protocolError .ctrlFrag .none none) .err 126#64 8#4 = true := by decide

/-- V22, bytes 9 and 10: the largest length, and its first payload byte. -/
theorem test_largest_length :
    nextIs (exec (.bin true false false false)
        { inFrame .ext 0x2#4 0xFF#8 with len7 := 127#7, cnt := 7#4, payloadLength := 72057594037927935#64 })
      inc .pay 18446744073709551615#64 8#4 = true := by decide

theorem test_largest_length_first_byte :
    nextWith (exec (.bin true false false false)
        { inFrame .pay 0x2#4 0x11#8 with payloadLength := 18446744073709551615#64 })
      (fun t => decide (t.payCnt = 1#64 ∧ t.pmem = [(0, 0x11#8)] ∧ t.phase = .pay)) = true := by decide

/-- P4, byte 3: 256 in the 16-bit form leads to the key. -/
theorem test_ext16_to_key :
    nextIs (exec (.bin true false false false)
        { inFrame .ext 0x2#4 0x00#8 with len7 := 126#7, cnt := 1#4, payloadLength := 1#64, masked := true })
      inc .key 256#64 0#4 = true := by decide

/-- Part 7: the reset-state vector. -/
theorem test_reset_state :
    nextWith (step { st .err 0x00#8 with
        errReason := .opcode, opcode := 0xD#4, pmem := [(3, 0x6C#8)], pending := [⟨true, true, true, 0x81#8⟩] })
      (fun t => decide (t = { State.reset with
        maskReq := true, pmem := [(3, 0x6C#8)], pins := ⟨true, true, true, 0x81#8⟩ })) = true := by decide

/-- R113, R27: `f_ftype` of Pong and the 32-bit view of the key. -/
theorem test_ports :
    (ports { st .b0 0x00#8 with opcode := 0xA#4, maskKey := ⟨0x37#8, 0xFA#8, 0x21#8, 0x3D#8⟩ }).fFtype = 0b110#3 ∧
    (ports { st .b0 0x00#8 with opcode := 0xA#4, maskKey := ⟨0x37#8, 0xFA#8, 0x21#8, 0x3D#8⟩ }).fMaskKey =
      0x37FA213D#32 := by decide

/-- V3 after byte 8, and after the next frame's byte 1: PMEM[1] is the frame's until a payload byte comes (R72); PMEM[2]
is stale. -/
theorem test_consumer_read :
    memRead { st .b0 0x00#8 with
      pmem := [(0, 0x6C#8), (1, 0x6F#8), (2, 0x6C#8)], payloadLength := 2#64, window := 2#64 } 1#64 0 = 0x6F#8 ∧
    memRead { st .key 0x00#8 with
      pmem := [(0, 0x6C#8), (1, 0x6F#8), (2, 0x6C#8)], payloadLength := 1#64, window := 2#64 } 1#64 0 = 0x6F#8 := by
  decide

theorem test_consumer_read_outside :
    memRead { st .b0 0x00#8 with
      pmem := [(0, 0x6C#8), (1, 0x6F#8), (2, 0x6C#8)], payloadLength := 2#64, window := 2#64 } 2#64 9 =
      Config.unspecifiedByte 9 := by rfl

/-- V3, byte 7: the first payload byte of the second frame ends the first frame's window. -/
theorem test_payload_byte_ends_window :
    nextWith (exec (.cont true false false false)
        { inFrame .pay 0x0#4 0x6C#8 with payloadLength := 2#64, window := 3#64, pmem := [(0, 0x48#8)] })
      (fun t => decide (t.window = 0#64 ∧ t.pmem = [(0, 0x6C#8)])) = true := by decide

/-- R163: text with a byte above 127 is delivered raw and then given to the policy; R170: an Error leaves no message. -/
theorem test_consume_text_policy :
    deliverMessage (fun _ => [.teardown .localClose]) ⟨.text, [0xC3#8]⟩ =
      [.onMessage ⟨.text, [0xC3#8]⟩, .teardown .localClose] ∧
    deliverMessage (fun _ => [.teardown .localClose]) ⟨.text, [0x7F#8]⟩ = [.onMessage ⟨.text, [0x7F#8]⟩] ∧
    deliverMessage (fun _ => [.teardown .localClose]) ⟨.binary, [0xC3#8]⟩ = [.onMessage ⟨.binary, [0xC3#8]⟩] := by
  decide

/-- R221: the class of P4's end and of P5's. -/
theorem test_end_of_run : endOfRun (st .key 0xBB#8) = .partialFrame ∧ endOfRun (st .err 0x54#8) = .faulted := by decide

/-- V1's Frame. -/
theorem test_frame_view :
    (deliveredFrame { inFrame .b0 0x1#4 0x6F#8 with
        len7 := 5#7, payloadLength := 5#64, payCnt := 5#64, out := .consumed .frameComplete .none .none none
        pmem := [(0, 0x48#8), (1, 0x65#8), (2, 0x6C#8), (3, 0x6C#8), (4, 0x6F#8)] }) =
      some ⟨true, false, false, false, .text, false, none, 5#64, [0x48#8, 0x65#8, 0x6C#8, 0x6C#8, 0x6F#8]⟩ := by decide

/-! ## Witnesses: states and operands that meet a statement's hypotheses together, clause by clause -/

/-- Between frames, the one-byte Ping frame "h" just completed. -/
def wB0 : State :=
  { inFrame .b0 0x9#4 0x8D#8 with len7 := 1#7, payloadLength := 1#64, payCnt := 1#64, pmem := [(0, 0x68#8)], window := 1#64 }

/-- A Ping after byte 0; FIN as given. -/
def wB1 (fin : Bool) (b : Byte) : State := { inFrame .b1 0x9#4 b with fin := fin }

/-- A Ping at the last byte of a 16-bit length. -/
def wExt16 (fin : Bool) (b : Byte) : State := { inFrame .ext 0x9#4 b with fin := fin, len7 := 126#7, cnt := 1#4 }

/-- A Ping at the last byte of a 64-bit length. -/
def wExt64 (fin : Bool) (b : Byte) : State := { inFrame .ext 0x9#4 b with fin := fin, len7 := 127#7, cnt := 7#4 }

/-- A masked Close at its fourth key byte, with one payload byte to come. -/
def wKey : State :=
  { inFrame .key 0x8#4 0x3D#8 with
    maskReq := true, masked := true, len7 := 1#7, payloadLength := 1#64, cnt := 3#4, maskKey := ⟨0x37#8, 0xFA#8, 0x21#8, 0x00#8⟩ }

/-- A Text frame of two bytes, the first one stored; PMAX is exactly its length. -/
def wPay : State :=
  { inFrame .pay 0x1#4 0x69#8 with
    len7 := 2#7, payloadLength := 2#64, payCnt := 1#64, pmem := [(0, 0x48#8)], pmax := some 2 }

/-- A frame one byte longer than PMAX. -/
def wTooLong : State := { wPay with pmax := some 1 }

/-- After E_MASK. -/
def wErr : State := { wB1 true 0x05#8 with phase := .err, errReason := .mask, masked := true }

theorem inv_wB0 : Inv (wB0) := by
  constructor <;> try simp only [InvError, InvStart, InvMask, InvExt, InvKey, InvPay, InvControl, InvLength, InvCleared,
    InvStored, InvWindow]
  all_goals decide

theorem inv_wB1 : Inv (wB1 true 0x85#8) := by
  constructor <;> try simp only [InvError, InvStart, InvMask, InvExt, InvKey, InvPay, InvControl, InvLength, InvCleared,
    InvStored, InvWindow]
  all_goals decide

theorem inv_wB1_frag : Inv (wB1 false 0x00#8) := by
  constructor <;> try simp only [InvError, InvStart, InvMask, InvExt, InvKey, InvPay, InvControl, InvLength, InvCleared,
    InvStored, InvWindow]
  all_goals decide

theorem inv_wB1_frag_longest : Inv (wB1 false 0x7D#8) := by
  constructor <;> try simp only [InvError, InvStart, InvMask, InvExt, InvKey, InvPay, InvControl, InvLength, InvCleared,
    InvStored, InvWindow]
  all_goals decide

theorem inv_wExt16 : Inv (wExt16 true 0x7E#8) := by
  constructor <;> try simp only [InvError, InvStart, InvMask, InvExt, InvKey, InvPay, InvControl, InvLength, InvCleared,
    InvStored, InvWindow]
  all_goals decide

theorem inv_wExt16_frag : Inv (wExt16 false 0x05#8) := by
  constructor <;> try simp only [InvError, InvStart, InvMask, InvExt, InvKey, InvPay, InvControl, InvLength, InvCleared,
    InvStored, InvWindow]
  all_goals decide

theorem inv_wExt64 : Inv (wExt64 true 0x7E#8) := by
  constructor <;> try simp only [InvError, InvStart, InvMask, InvExt, InvKey, InvPay, InvControl, InvLength, InvCleared,
    InvStored, InvWindow]
  all_goals decide

theorem inv_wExt64_frag : Inv (wExt64 false 0x00#8) := by
  constructor <;> try simp only [InvError, InvStart, InvMask, InvExt, InvKey, InvPay, InvControl, InvLength, InvCleared,
    InvStored, InvWindow]
  all_goals decide

theorem inv_wKey : Inv (wKey) := by
  constructor <;> try simp only [InvError, InvStart, InvMask, InvExt, InvKey, InvPay, InvControl, InvLength, InvCleared,
    InvStored, InvWindow]
  all_goals decide

theorem inv_wPay : Inv (wPay) := by
  constructor <;> try simp only [InvError, InvStart, InvMask, InvExt, InvKey, InvPay, InvControl, InvLength, InvCleared,
    InvStored, InvWindow]
  all_goals decide

theorem inv_wErr : Inv (wErr) := by
  constructor <;> try simp only [InvError, InvStart, InvMask, InvExt, InvKey, InvPay, InvControl, InvLength, InvCleared,
    InvStored, InvWindow]
  all_goals decide

/-- A non-minimal form, a key, reserved bits set. -/
theorem witness_FrameEncodingRoundTrips :
    Frame.wf ⟨.cont false true false true, some ⟨some ⟨0x01#8, 0x02#8, 0x03#8, 0x04#8⟩, .ext16, [0xAA#8]⟩⟩ = true :=
  by decide

theorem witness_DecodedFrameIsItsEncoding :
    ∃ bs f rest, decodeFrame bs = .ok (f, rest) :=
  ⟨[0x8D#8, 0x80#8], ⟨.invalidD true false false false, none⟩, [0x80#8], rfl⟩

theorem witness_MinimalFormIsMinimal :
    ∀ n ∈ [0, 125, 126, 65535, 65536, 2 ^ 64 - 1], n < 2 ^ 64 ∧ ∃ form : LenForm, n ≤ form.maxLength :=
  by
  intro n hn
  refine ⟨?_, .ext64, ?_⟩ <;> revert n <;> decide

theorem witness_RegistryTable :
    ∃ op, op ∈ [0x3#4, 0x4#4, 0x5#4, 0x6#4, 0x7#4, 0xB#4, 0xC#4, 0xD#4, 0xE#4, 0xF#4] :=
  ⟨0xF#4, by decide⟩

theorem witness_RegistryMapsAreInverse :
    ∃ op op', registryValid op = true ∧ registryValid op' = true ∧ registryType op = registryType op' ∧
      ∃ t t', registryOpcode t = registryOpcode t' :=
  ⟨0xA#4, 0xA#4, by decide, by decide, by decide, .pong, .pong, by decide⟩

theorem witness_StartWordSelectsByOpcodeBits :
    ∃ w : Nat, w < 65536 ∧ decodeTableWord 16 w = some (.invalidF true true true true) :=
  ⟨65535, by decide, by decide⟩

theorem witness_StepRunsDecodedInstruction_byte0 :
    ∃ (s : State) (p : Pins) (rest : List Pins) (i : Instr), s.pending = p :: rest ∧ p.rst = false ∧ p.inValid = true ∧
      s.phase = .b0 ∧ ∃ bs, decode (p.inByte :: bs) = .ok (i, bs) :=
  ⟨{ st .b0 0x00#8 with pending := [byteCycle 0x81#8] }, byteCycle 0x81#8, [], .text true false false false,
    by decide, by decide, by decide, by decide, [], rfl⟩

theorem witness_StepRunsDecodedInstruction_later :
    ∃ (s : State) (p : Pins) (rest : List Pins) (i : Instr), s.pending = p :: rest ∧ p.rst = false ∧ p.inValid = true ∧
      s.phase ≠ .b0 ∧ i.opcode = s.opcode ∧ i.fin = s.fin ∧ i.rsv1 = s.rsv1 ∧ i.rsv2 = s.rsv2 ∧ i.rsv3 = s.rsv3 :=
  ⟨{ wPay with pending := [byteCycle 0x69#8] }, byteCycle 0x69#8, [], .text true false false false,
    by decide, by decide, by decide, by decide, by decide, by decide, by decide, by decide, by decide⟩

theorem witness_ResetCycleSetsEveryRegister :
    ∃ (s : State) (p : Pins) (rest : List Pins), s.pending = p :: rest ∧ p.rst = true ∧ p.inValid = true :=
  ⟨{ wErr with pending := [⟨true, true, true, 0x81#8⟩] }, ⟨true, true, true, 0x81#8⟩, [], by decide, by decide, by decide⟩

theorem witness_IdleCycleChangesNothing :
    (∃ (s : State) (p : Pins) (rest : List Pins), s.pending = p :: rest ∧ p.rst = false ∧ p.inValid = false) ∧
      (∃ s : State, s.pending = []) ∧ ∃ s : State, s.out = .idle :=
  ⟨⟨{ wPay with pending := [⟨false, true, false, 0xFF#8⟩] }, ⟨false, true, false, 0xFF#8⟩, [], by decide, by decide, by decide⟩,
    ⟨wPay, by decide⟩, wPay, by decide⟩

theorem witness_PolicyIsSampledOnlyByReset :
    (∃ s t : State, step s = .next t ∧ t.pins.rst = true) ∧ ∃ s t : State, step s = .next t ∧ t.pins.rst = false :=
  ⟨⟨{ wPay with pending := [⟨true, true, false, 0x00#8⟩] }, _, rfl, by decide⟩,
    { wPay with pending := [⟨false, true, true, 0x00#8⟩] }, _, rfl, by decide⟩

theorem witness_ByteZeroStartsFrame :
    ∀ i ∈ [Instr.cont false false false false, .text true false false false, .bin true false false false,
      .close false false false false, .ping true false false false, .pong true false false false],
      (st .b0 0x00#8).phase = .b0 ∧ registryValid i.opcode = true ∧ i.rsv1 = false ∧ i.rsv2 = false ∧ i.rsv3 = false :=
  by decide

theorem witness_ReservedBitRaisesRsv :
    ∀ i ∈ [Instr.cont false true false false, .text true false true false, .bin true false false true,
      .close true true true true, .ping true true false false, .pong true false false true],
      (st .b0 0x00#8).phase = .b0 ∧ registryValid i.opcode = true ∧ (i.rsv1 = true ∨ i.rsv2 = true ∨ i.rsv3 = true) :=
  by decide

theorem witness_InvalidOpcodeRaisesOpcode :
    ∀ i ∈ [Instr.invalid3 true false false false, .invalid4 false true false false, .invalid5 true true true true,
      .invalid6 true false false false, .invalid7 false true false false, .invalidB true false false false,
      .invalidC true false false false, .invalidD true true true true, .invalidE true false false false,
      .invalidF true true true true],
      (st .b0 0x00#8).phase = .b0 ∧
        i.opcode ∈ [0x3#4, 0x4#4, 0x5#4, 0x6#4, 0x7#4, 0xB#4, 0xC#4, 0xD#4, 0xE#4, 0xF#4] :=
  by decide

theorem witness_MaskMismatchRaisesMask :
    ∃ s : State, s.phase = .b1 ∧ s.pins.inByte.getLsbD 7 ≠ s.maskReq ∧ Inv s :=
  ⟨wB1 true 0x85#8, by decide, by decide, inv_wB1⟩

theorem witness_ByteOneAnnouncesExtendedLength :
    ∀ b ∈ [0x7E#8, 0x7F#8], (wB1 true b).phase = .b1 ∧ (wB1 true b).pins.inByte.getLsbD 7 = (wB1 true b).maskReq ∧
      ((wB1 true b).pins.inByte.extractLsb' 0 7 = 126#7 ∨ (wB1 true b).pins.inByte.extractLsb' 0 7 = 127#7) :=
  by decide

theorem witness_ExtendedByteShiftsIn :
    ∀ s ∈ [{ wExt16 true 0x01#8 with cnt := 0#4 }, { wExt64 true 0x01#8 with cnt := 6#4 }],
      s.phase = .ext ∧ s.cnt + 1#4 ≠ (if s.len7 = 126#7 then 2#4 else 8#4) :=
  by decide

theorem witness_FragmentedControlRaisesFrag_byte1 :
    ∀ s ∈ [wB1 false 0x00#8, wB1 false 0x7D#8], (Instr.ping false false false false).opcode = s.opcode ∧
      registryType s.opcode = some .ping ∧ isControl .ping = true ∧ s.fin = false ∧ s.phase = .b1 ∧
      s.pins.inByte.getLsbD 7 = s.maskReq ∧ s.pins.inByte.extractLsb' 0 7 ≤ 125#7 :=
  by decide

theorem witness_FragmentedControlRaisesFrag_extended :
    ∀ s ∈ [wExt16 false 0x05#8, wExt64 false 0x00#8], (Instr.ping false false false false).opcode = s.opcode ∧
      registryType s.opcode = some .ping ∧ isControl .ping = true ∧ s.fin = false ∧ s.phase = .ext ∧
      s.cnt + 1#4 = (if s.len7 = 126#7 then 2#4 else 8#4) :=
  by decide

theorem witness_OverlongControlRaisesLen :
    ∀ s ∈ [wExt16 true 0x7E#8, { wExt64 true 0x00#8 with payloadLength := 1#64 }],
      (Instr.ping true false false false).opcode = s.opcode ∧ registryType s.opcode = some .ping ∧
      isControl .ping = true ∧ s.fin = true ∧ s.phase = .ext ∧ s.cnt + 1#4 = (if s.len7 = 126#7 then 2#4 else 8#4) ∧
      (s.payloadLength <<< 8) ||| s.pins.inByte.setWidth 64 > 125#64 :=
  by decide

theorem witness_KnownLengthMaskedGoesToKey_byte1 :
    ∀ s ∈ [{ wB1 true 0x80#8 with maskReq := true }, { wB1 true 0xFD#8 with maskReq := true }],
      (Instr.ping true false false false).opcode = s.opcode ∧ registryType s.opcode = some .ping ∧ s.phase = .b1 ∧
      s.pins.inByte.getLsbD 7 = true ∧ s.maskReq = true ∧ s.pins.inByte.extractLsb' 0 7 ≤ 125#7 ∧
      (isControl .ping = true → s.fin = true) :=
  by decide

theorem witness_KnownLengthMaskedGoesToKey_extended :
    ∀ s ∈ ([{ wExt16 true 0x7D#8 with masked := true }, { wExt64 true 0x00#8 with masked := true }] : List State),
      (Instr.ping true false false false).opcode = s.opcode ∧ registryType s.opcode = some .ping ∧ s.phase = .ext ∧
      s.cnt + 1#4 = (if s.len7 = 126#7 then 2#4 else 8#4) ∧ s.masked = true ∧
      (isControl .ping = true → s.fin = true ∧ (s.payloadLength <<< 8) ||| s.pins.inByte.setWidth 64 ≤ 125#64) :=
  by decide

theorem witness_KnownLengthUnmaskedGoesToPayload_byte1 :
    ∀ s ∈ [wB1 true 0x01#8, wB1 true 0x7D#8],
      (Instr.ping true false false false).opcode = s.opcode ∧ registryType s.opcode = some .ping ∧ s.phase = .b1 ∧
      s.pins.inByte.getLsbD 7 = false ∧ s.maskReq = false ∧ s.pins.inByte.extractLsb' 0 7 ≤ 125#7 ∧
      s.pins.inByte.extractLsb' 0 7 ≠ 0#7 ∧ (isControl .ping = true → s.fin = true) :=
  by decide

theorem witness_KnownLengthUnmaskedGoesToPayload_extended :
    ∀ s ∈ [wExt16 true 0x7D#8, wExt64 true 0x01#8],
      (Instr.ping true false false false).opcode = s.opcode ∧ registryType s.opcode = some .ping ∧ s.phase = .ext ∧
      s.cnt + 1#4 = (if s.len7 = 126#7 then 2#4 else 8#4) ∧ s.masked = false ∧
      (s.payloadLength <<< 8) ||| s.pins.inByte.setWidth 64 ≠ 0#64 ∧
      (isControl .ping = true → s.fin = true ∧ (s.payloadLength <<< 8) ||| s.pins.inByte.setWidth 64 ≤ 125#64) :=
  by decide

/-- The same hypotheses of a data frame put no condition on FIN and length. -/
theorem witness_KnownLength_fragmented_data_frame :
    (isControl .text = true → (inFrame .b1 0x1#4 0x03#8).fin = true) ∧ registryType 0x1#4 = some .text :=
  by decide

theorem witness_EmptyUnmaskedFrameCompletes :
    ∀ s ∈ [wB1 true 0x00#8, wExt16 true 0x00#8, wExt64 true 0x00#8],
      (Instr.ping true false false false).opcode = s.opcode ∧ registryType s.opcode = some .ping ∧
      (isControl .ping = true → s.fin = true) ∧
      (s.phase = .b1 ∧ s.pins.inByte = 0x00#8 ∧ s.maskReq = false ∨
        s.phase = .ext ∧ s.cnt + 1#4 = (if s.len7 = 126#7 then 2#4 else 8#4) ∧ s.masked = false ∧
          (s.payloadLength <<< 8) ||| s.pins.inByte.setWidth 64 = 0#64) :=
  by decide

theorem witness_KeyByteIsCaptured :
    ∀ c ∈ [0#4, 1#4, 2#4], { wKey with cnt := c }.phase = .key ∧ { wKey with cnt := c }.cnt = c :=
  by decide

theorem witness_LastKeyByteCompletesHeader :
    ∀ s ∈ [wKey, { wKey with payloadLength := 0#64, len7 := 0#7 }], (Instr.close true false false false).opcode = s.opcode ∧
      registryType s.opcode = some .close ∧ s.phase = .key ∧ s.cnt = 3#4 :=
  by decide

/-- The frame is exactly as long as PMAX. -/
theorem witness_PayloadByteIsUnmaskedAndStored :
    (Instr.text true false false false).opcode = wPay.opcode ∧ registryType wPay.opcode = some .text ∧ wPay.phase = .pay ∧
      ∀ n, wPay.pmax = some n → wPay.payloadLength.toNat ≤ n :=
  ⟨by decide, by decide, by decide, fun n h => by injection h with h; subst h; decide⟩

/-- A byte that does not complete the frame, PMAX unbounded. -/
theorem witness_PayloadByteIsUnmaskedAndStored_more_to_come :
    ∃ s : State, (Instr.text true false false false).opcode = s.opcode ∧ registryType s.opcode = some .text ∧ s.phase = .pay ∧
      (∀ n, s.pmax = some n → s.payloadLength.toNat ≤ n) ∧ s.payCnt + 1#64 ≠ s.payloadLength :=
  ⟨{ wPay with payCnt := 0#64, pmem := [], pmax := none }, by decide, by decide, by decide, fun n h => (by cases h), by decide⟩

theorem witness_FrameBeyondPmaxIsRefused :
    wTooLong.phase = .pay ∧ wTooLong.pmax = some 1 ∧ 1 < wTooLong.payloadLength.toNat :=
  by decide

theorem witness_ErrorPhaseDiscardsBytes :
    wErr.phase = .err :=
  by decide

theorem witness_OnlyResetLeavesError :
    (∃ s t : State, s.phase = .err ∧ step s = .next t ∧ t.pins.rst = false) ∧
      ∃ s t : State, s.phase = .err ∧ step s = .next t ∧ t.pins.rst = true :=
  ⟨⟨{ wErr with pending := [byteCycle 0x81#8] }, _, by decide, rfl, by decide⟩,
    { wErr with pending := [⟨true, false, true, 0x81#8⟩] }, _, by decide, rfl, by decide⟩

theorem witness_ErrorEntryIsPrecise :
    (∃ i s t, s.phase ≠ .err ∧ exec i s = .next t ∧ t.phase = .err) ∧
      ∃ i s t, s.phase ≠ .err ∧ exec i s = .next t ∧ t.phase ≠ .err :=
  ⟨⟨.ping true false false false, wB1 true 0x85#8, _, by decide, rfl, by decide⟩,
    .ping true false false false, wB1 true 0x05#8, _, by decide, rfl, by decide⟩

theorem witness_ErrorsOnlyOnHeaderBytes_opcode :
    ∃ i s t, Inv s ∧ s.phase ≠ .err ∧ exec i s = .next t ∧ t.phase = .err ∧ t.errReason = .opcode ∧
      frameOffset s = some 0 :=
  ⟨.invalidD true false false false, wB0, _, inv_wB0, by decide, rfl, by decide, by decide, by decide⟩

theorem witness_ErrorsOnlyOnHeaderBytes_rsv :
    ∃ i s t, Inv s ∧ s.phase ≠ .err ∧ exec i s = .next t ∧ t.phase = .err ∧ t.errReason = .rsv ∧
      frameOffset s = some 0 :=
  ⟨.text true true false false, wB0, _, inv_wB0, by decide, rfl, by decide, by decide, by decide⟩

theorem witness_ErrorsOnlyOnHeaderBytes_mask :
    ∃ i s t, Inv s ∧ s.phase ≠ .err ∧ exec i s = .next t ∧ t.phase = .err ∧ t.errReason = .mask ∧
      frameOffset s = some 1 :=
  ⟨.ping true false false false, wB1 true 0x85#8, _, inv_wB1, by decide, rfl, by decide, by decide, by decide⟩

theorem witness_ErrorsOnlyOnHeaderBytes_ctrlFrag_1 :
    ∃ i s t, Inv s ∧ s.phase ≠ .err ∧ exec i s = .next t ∧ t.phase = .err ∧ t.errReason = .ctrlFrag ∧
      frameOffset s = some 1 :=
  ⟨.ping false false false false, wB1 false 0x7D#8, _, inv_wB1_frag_longest, by decide, rfl, by decide, by decide, by decide⟩

theorem witness_ErrorsOnlyOnHeaderBytes_ctrlFrag_3 :
    ∃ i s t, Inv s ∧ s.phase ≠ .err ∧ exec i s = .next t ∧ t.phase = .err ∧ t.errReason = .ctrlFrag ∧
      frameOffset s = some 3 :=
  ⟨.ping false false false false, wExt16 false 0x05#8, _, inv_wExt16_frag, by decide, rfl, by decide, by decide, by decide⟩

theorem witness_ErrorsOnlyOnHeaderBytes_ctrlFrag_9 :
    ∃ i s t, Inv s ∧ s.phase ≠ .err ∧ exec i s = .next t ∧ t.phase = .err ∧ t.errReason = .ctrlFrag ∧
      frameOffset s = some 9 :=
  ⟨.ping false false false false, wExt64 false 0x00#8, _, inv_wExt64_frag, by decide, rfl, by decide, by decide, by decide⟩

theorem witness_ErrorsOnlyOnHeaderBytes_ctrlLen_3 :
    ∃ i s t, Inv s ∧ s.phase ≠ .err ∧ exec i s = .next t ∧ t.phase = .err ∧ t.errReason = .ctrlLen ∧
      frameOffset s = some 3 :=
  ⟨.ping true false false false, wExt16 true 0x7E#8, _, inv_wExt16, by decide, rfl, by decide, by decide, by decide⟩

theorem witness_ErrorsOnlyOnHeaderBytes_ctrlLen_9 :
    ∃ i s t, Inv s ∧ s.phase ≠ .err ∧ exec i s = .next t ∧ t.phase = .err ∧ t.errReason = .ctrlLen ∧
      frameOffset s = some 9 :=
  ⟨.ping true false false false, wExt64 true 0x7E#8, _, inv_wExt64, by decide, rfl, by decide, by decide, by decide⟩

/-- ExecMemoryFrame, ExecRegisterFrame and StepOutputsAreConsistent, clause by clause. -/
theorem witness_ExecFrames :
    (∃ i s t, exec i s = .next t ∧ s.phase = .pay ∧ 0 ≠ s.payCnt.toNat) ∧
      (∃ i s t, exec i s = .next t ∧ s.phase = .b1 ∧ t.phase = .ext) ∧
      (∃ i s t, exec i s = .next t ∧ s.phase = .b1 ∧ t.phase ≠ .ext ∧ t.phase ≠ .key) ∧
      (∃ i s t, exec i s = .next t ∧ s.phase = .key) ∧ ∃ i s t, exec i s = .next t ∧ s.phase = .err :=
  ⟨⟨.text true false false false, wPay, _, rfl, by decide, by decide⟩,
    ⟨.ping true false false false, wB1 true 0x7F#8, _, rfl, by decide, by decide⟩,
    ⟨.ping true false false false, wB1 true 0x05#8, _, rfl, by decide, by decide, by decide⟩,
    ⟨.close true false false false, wKey, _, rfl, by decide⟩, .ping true false false false, wErr, _, rfl, by decide⟩

theorem witness_PortsShowOutputsAndRegisters :
    ∃ (s : State) (g : Sig) (r : ErrReason) (a : CtlAction) (w : Option PayloadWrite), s.out = .consumed g r a w ∧
      w = some ⟨1#64, 0x69#8⟩ ∧ registryType s.opcode = some .text :=
  ⟨{ wPay with out := .consumed .frameComplete .none .none (some ⟨1#64, 0x69#8⟩) }, .frameComplete, .none, .none,
    some ⟨1#64, 0x69#8⟩, by decide, by decide, by decide⟩

theorem witness_StepKeepsInvariant :
    ∃ s t : State, Inv s ∧ step s = .next t :=
  ⟨wErr, _, inv_wErr, rfl⟩

theorem witness_FrameOffsetAdvances :
    (∃ i s t k, Inv s ∧ exec i s = .next t ∧ frameOffset s = some k ∧ frameOffset t = some (k + 1)) ∧
      ∃ i s t k, Inv s ∧ exec i s = .next t ∧ frameOffset s = some k ∧ frameOffset t = some 0 :=
  ⟨⟨.close true false false false, wKey, _, 5, inv_wKey, rfl, by decide, by decide⟩,
    .text true false false false, wPay, _, 3, inv_wPay, rfl, by decide, by decide⟩

theorem witness_ArithmeticDoesNotWrap :
    (∃ s, Inv s ∧ s.phase = .pay) ∧ (∃ s, Inv s ∧ s.phase = .ext ∧ s.cnt = 7#4) ∧ ∃ s, Inv s ∧ s.phase = .key ∧ s.cnt = 3#4 :=
  ⟨⟨wPay, inv_wPay, by decide⟩, ⟨wExt64 true 0x7E#8, inv_wExt64, by decide, by decide⟩, wKey, inv_wKey, by decide, by decide⟩

theorem witness_ConsumerReadsCompletedPayload :
    Inv wB0 ∧ (0#64 < wB0.window) ∧ (¬1#64 < wB0.window) ∧ wB0.phase = .b0 ∧ wB0.payloadLength ≠ 0#64 :=
  ⟨inv_wB0, by decide, by decide, by decide, by decide⟩

theorem witness_ValidityWindowLastsToNextPayload :
    (∃ s t : State, step s = .next t ∧ (ports t).pwEn = false ∧ s.window = 1#64) ∧
      (∃ s t : State, step s = .next t ∧ (ports t).pwEn = true ∧ (ports t).sig = some Sig.frameComplete.code) ∧
      ∃ s t : State, step s = .next t ∧ (ports t).pwEn = true ∧ (ports t).sig ≠ some Sig.frameComplete.code :=
  ⟨⟨{ wB0 with pending := [byteCycle 0x81#8] }, _, rfl, by decide, by decide⟩,
    ⟨{ wPay with pending := [byteCycle 0x69#8] }, _, rfl, by decide, by decide⟩,
    { wPay with payCnt := 0#64, pending := [byteCycle 0x69#8] }, _, rfl, by decide, by decide⟩

theorem witness_PmemContentsDecideNothing :
    (∃ s t : State, step s = .next t) ∧ ∃ (s : State) (r : Refusal), step s = .refused r :=
  ⟨⟨wPay, _, rfl⟩, { wTooLong with pending := [byteCycle 0x69#8] }, .payloadExceedsPmax, rfl⟩

theorem witness_PayloadBytesDoNotSteer :
    ∃ i s t t', s.phase = .pay ∧ exec i s = .next t ∧ exec i { s with pins := { s.pins with inByte := 0xFF#8 } } = .next t' :=
  ⟨.text true false false false, wPay, _, _, by decide, rfl, rfl⟩

theorem witness_PmemReadAfterWrite :
    ∃ (m : Memory) (a : Word64) (b : Nat), Memory.wf m = true ∧ b ≠ a.toNat :=
  ⟨[(0, 0x48#8)], 18446744073709551615#64, 0, by decide, by decide⟩

theorem witness_ExtendedLengthIsBigEndian :
    [0xFF#8, 0xFF#8, 0xFF#8, 0xFF#8, 0xFF#8, 0xFF#8, 0xFF#8, 0xFF#8].length ≤ 8 :=
  by decide

/-- A non-minimal Ping on a platform that just holds it. -/
theorem witness_AcceptedFrameIsDelivered :
    ∃ (f : Frame) (o : Operands) (t : FrameType) (s : State) (rest : List Pins),
      f.wf = true ∧ f.operands = some o ∧ registryType f.start.opcode = some t ∧ firstViolation s.maskReq f = none ∧
      (∀ n, s.pmax = some n → o.payload.length ≤ n) ∧ s.phase = .b0 ∧
      s.pending = byteCycles (encodeFrame f) ++ rest ∧ 1 < (encodeFrame f).length :=
  ⟨⟨.ping true false false false, some ⟨none, .ext16, [0x68#8, 0x69#8]⟩⟩, ⟨none, .ext16, [0x68#8, 0x69#8]⟩, .ping,
    { wB0 with
      pmax := some 2
      pending := byteCycles [0x89#8, 0x7E#8, 0x00#8, 0x02#8, 0x68#8, 0x69#8] ++ [byteCycle 0x81#8] },
    [byteCycle 0x81#8], by decide, by decide, by decide, by decide,
    fun n h => (by injection h with h; subst h; decide), by decide, by decide, by decide⟩

theorem witness_ViolatingFrameRaisesFirstViolation :
    ∀ fr ∈ [(Frame.mk (.invalidD true true true true) none, ErrReason.opcode),
      (⟨.text true false false true, some ⟨none, .literal, []⟩⟩, .rsv),
      (⟨.ping false false false false, some ⟨some ⟨0x01#8, 0x02#8, 0x03#8, 0x04#8⟩, .literal, []⟩⟩, .mask),
      (⟨.ping false false false false, some ⟨none, .ext64, []⟩⟩, .ctrlFrag)],
      fr.1.wf = true ∧ firstViolation false fr.1 = some fr.2 ∧
      { wB0 with pending := byteCycles (encodeFrame fr.1) ++ [] }.pending = byteCycles (encodeFrame fr.1) ++ [] :=
  by decide

theorem witness_ViolatingFrameRaisesFirstViolation_ctrlLen :
    firstViolation false ⟨.close true false false false, some ⟨none, .ext16, List.replicate 126 0x00#8⟩⟩ = some .ctrlLen ∧
      Frame.wf ⟨.close true false false false, some ⟨none, .ext16, List.replicate 126 0x00#8⟩⟩ = true :=
  by
  simp only [firstViolation, operandViolation, Frame.wf, Operands.lengthFits, LenForm.maxLength, List.length_replicate]
  decide

theorem witness_PartialPayloadIsStoredInOrder :
    ∃ (f : Frame) (o : Operands) (t : FrameType) (s : State) (rest : List Pins) (k : Nat),
      f.wf = true ∧ f.operands = some o ∧ registryType f.start.opcode = some t ∧ firstViolation s.maskReq f = none ∧
      (∀ n, s.pmax = some n → o.payload.length ≤ n) ∧ s.phase = .b0 ∧
      s.pending = byteCycles (encodeFrame f) ++ rest ∧ k < o.payload.length :=
  ⟨⟨.text false false false false, some ⟨none, .literal, [0x48#8, 0x65#8]⟩⟩, ⟨none, .literal, [0x48#8, 0x65#8]⟩, .text,
    { wB0 with pending := byteCycles [0x01#8, 0x02#8, 0x48#8, 0x65#8] ++ [] }, [], 1,
    by decide, by decide, by decide, by decide, fun n h => (by cases h), by decide, by decide, by decide⟩

theorem witness_IdleGapsDoNotMatter :
    ∃ (s t : State) (ps rest : List Pins), (∀ p ∈ ps, p.rst = false) ∧ s.pending = ps ++ rest ∧
      Host.Core.run Sys2Proof.core ps.length s = .next t :=
  ⟨{ wB0 with pending := [byteCycle 0x81#8, ⟨false, true, false, 0xFF#8⟩, byteCycle 0x00#8] ++ [] }, _,
    [byteCycle 0x81#8, ⟨false, true, false, 0xFF#8⟩, byteCycle 0x00#8], [], by decide, by decide, rfl⟩

theorem witness_ResetForgetsTheFrame :
    ∃ (s s' : State) (p : Pins) (rest : List Pins), p.rst = true ∧ s.pending = p :: rest ∧ s'.pending = p :: rest ∧
      s.pmem = s'.pmem ∧ s.pmax = s'.pmax ∧ s ≠ s' :=
  ⟨{ wErr with pending := [⟨true, true, false, 0x00#8⟩] }, { wKey with pending := [⟨true, true, false, 0x00#8⟩] },
    ⟨true, true, false, 0x00#8⟩, [], by decide, by decide, by decide, by decide, by decide, by decide⟩

/-- A delivered frame of a type, with FIN and payload as given. -/
def wFrame (t : FrameType) (fin : Bool) (p : List Byte) : FrameObs :=
  ⟨fin, false, false, false, t, false, none, BitVec.ofNat 64 p.length, p⟩

theorem witness_ReassemblerTransitions :
    ∀ t ∈ [FrameType.cont, .text, .bin], ∀ fin ∈ [true, false],
      (wFrame t fin [0x41#8]).frameType = t ∧ (wFrame t fin [0x41#8]).fin = fin :=
  by decide

/-- 95_test_vectors.md S5. -/
theorem witness_FragmentsReassemble :
    ∃ (mids : List FrameObs) (last : FrameObs),
      (∀ g ∈ mids, g.frameType = .cont ∧ g.fin = false ∨ isControl g.frameType = true) ∧
      last.frameType = .cont ∧ last.fin = true :=
  ⟨[wFrame .cont false [0x42#8], wFrame .ping true [0x70#8]], wFrame .cont true [0x43#8], by decide, by decide, by decide⟩

/-- A frame of one byte just completed, its opcode, FIN, byte and action as given. -/
def wDone (op : BitVec 4) (fin : Bool) (b : Byte) (a : CtlAction) : State :=
  { inFrame .b0 op b with
    fin := fin, len7 := 1#7, payloadLength := 1#64, payCnt := 1#64, pmem := [(0, b)], window := 1#64
    out := .consumed .frameComplete .none a none }

/-- After E_OPCODE: no frame type, so no Frame is shown. -/
def wErrOpcode : State :=
  { inFrame .err 0xD#4 0x8D#8 with errReason := .opcode, out := .consumed .protocolError .opcode .none none }

theorem witness_OutputsBecomeCallbacks_control :
    (wDone 0x8#4 true 0x03#8 .close).out = .consumed .frameComplete .none .close none ∧
      frameView (wDone 0x9#4 true 0x70#8 .ping) = some (wFrame .ping true [0x70#8]) ∧
      (wDone 0x9#4 true 0x70#8 .ping).out = .consumed .frameComplete .none .ping none ∧
      frameView (wDone 0xA#4 true 0x70#8 .pong) = some (wFrame .pong true [0x70#8]) ∧
      (wDone 0xA#4 true 0x70#8 .pong).out = .consumed .frameComplete .none .pong none :=
  by decide

theorem witness_OutputsBecomeCallbacks_pending :
    frameView (wDone 0x1#4 false 0x41#8 .none) = some (wFrame .text false [0x41#8]) ∧
      (wDone 0x1#4 false 0x41#8 .none).out = .consumed .frameComplete .none .none none ∧
      accept none (wFrame .text false [0x41#8]) = (.pending, some ⟨.text, [0x41#8]⟩) :=
  by decide

/-- The last decodable byte and the first that is not. -/
theorem witness_OutputsBecomeCallbacks_complete :
    ∀ b ∈ [0x7F#8, 0x80#8], frameView (wDone 0x1#4 true b .none) = some (wFrame .text true [b]) ∧
      (wDone 0x1#4 true b .none).out = .consumed .frameComplete .none .none none ∧
      accept none (wFrame .text true [b]) = (.complete ⟨.text, [b]⟩, none) ∧
      ((∀ x ∈ [b], x < 0x80#8) ∨ ∃ x ∈ [b], 0x80#8 ≤ x) :=
  by decide

/-- A Binary message that is not ASCII. -/
theorem witness_OutputsBecomeCallbacks_binary :
    frameView (wDone 0x2#4 true 0xFF#8 .none) = some (wFrame .bin true [0xFF#8]) ∧
      (wDone 0x2#4 true 0xFF#8 .none).out = .consumed .frameComplete .none .none none ∧
      accept none (wFrame .bin true [0xFF#8]) = (.complete ⟨.binary, [0xFF#8]⟩, none) :=
  by decide

theorem witness_OutputsBecomeCallbacks_error :
    frameView wErrOpcode = none ∧ wErrOpcode.out = .consumed .protocolError .opcode .none none :=
  by decide

theorem witness_OutputsBecomeCallbacks_silent :
    { wB1 true 0x85#8 with out := inc }.out = .consumed .incomplete .none .none none ∧ (wB1 true 0x85#8).out = .idle ∧
      State.reset.out = .resetCycle :=
  by decide

theorem witness_PartialMessageIsNeverDelivered :
    wErrOpcode.out = .consumed .protocolError .opcode .none none ∧
      (wDone 0x8#4 true 0x03#8 .close).out = .consumed .frameComplete .none .close none ∧ State.reset.out = .resetCycle :=
  by decide

theorem witness_PartialMessageIsNeverDelivered_outOfSequence :
    frameView (wDone 0x2#4 true 0x41#8 .none) = some (wFrame .bin true [0x41#8]) ∧
      (accept (some ⟨.text, [0x40#8]⟩) (wFrame .bin true [0x41#8])).1 = .error ∧
      frameView (wDone 0x0#4 true 0x43#8 .none) = some (wFrame .cont true [0x43#8]) ∧
      (wFrame .cont true [0x43#8]).frameType = .cont ∧
      (wDone 0x0#4 true 0x43#8 .none).out = .consumed .frameComplete .none .none none :=
  by decide

end Sys2Proof.Tests
end

section
/-! PROOF. Runs of several cycles: `RunThrough P n s t` says that `n` cycles lead from `s` to `t` and that the state after
each of them has the property `P`. -/

namespace Sys2Proof.Machine

/-- `n` cycles lead from `s` to `t`, and the state after each of them has the property `P`. -/
inductive RunThrough (P : State → Prop) : Nat → State → State → Prop
  | refl (s : State) : RunThrough P 0 s s
  | head {n : Nat} {s t u : State} : step s = .next t → P t → RunThrough P n t u → RunThrough P (n + 1) s u

variable {P Q : State → Prop} {m n k : Nat} {s t u : State}

theorem run_succ (n : Nat) (h : step s = .next t) :
    Host.Core.run Sys2Proof.core (n + 1) s = Host.Core.run Sys2Proof.core n t := by
  have hc : Sys2Proof.core.step s = .next t := h
  simp only [Host.Core.run, hc]

theorem RunThrough.run_eq (h : RunThrough P n s t) : Host.Core.run Sys2Proof.core n s = .next t := by
  induction h with
  | refl s => rfl
  | head hs _ _ ih => rw [run_succ _ hs, ih]

/-- A step after the run: `n + 1` cycles in all. -/
theorem RunThrough.run_step (h : RunThrough P n s t) (hs : step t = .next u) :
    Host.Core.run Sys2Proof.core (n + 1) s = .next u := by
  rw [run_add h.run_eq, run_succ 0 hs]
  rfl

theorem RunThrough.trans (h : RunThrough P m s t) (h' : RunThrough P n t u) : RunThrough P (n + m) s u := by
  induction h with
  | refl s => exact h'
  | head hs hP _ ih => exact .head hs hP (ih h')

theorem RunThrough.snoc (h : RunThrough P n s t) (hs : step t = .next u) (hP : P u) : RunThrough P (n + 1) s u := by
  rw [Nat.add_comm]
  exact h.trans (.head hs hP (.refl u))

theorem RunThrough.mono (h : RunThrough P n s t) (hPQ : ∀ v, P v → Q v) : RunThrough Q n s t := by
  induction h with
  | refl s => exact .refl s
  | head hs hP _ ih => exact .head hs (hPQ _ hP) ih

/-- The state after each cycle of the run has the property. -/
theorem RunThrough.prop_at (h : RunThrough P n s t) (hk : 0 < k) (hkn : k ≤ n) :
    ∃ v, Host.Core.run Sys2Proof.core k s = .next v ∧ P v := by
  induction h generalizing k with
  | refl s => omega
  | head hs hP _ ih =>
    obtain ⟨k, rfl⟩ : ∃ j, k = j + 1 := ⟨k - 1, by omega⟩
    rw [run_succ k hs]
    rcases Nat.eq_zero_or_pos k with rfl | hk'
    · exact ⟨_, rfl, hP⟩
    · exact ih hk' (by omega)

end Sys2Proof.Machine
end

section
/-! PROOF. What one fed byte does in each phase, as a step of the machine. -/

namespace Sys2Proof.Machine

/-- The last cycle consumed a byte with Incomplete. -/
def Incomplete (s : State) : Prop := ∃ w, s.out = .consumed .incomplete .none .none w

/-- The last cycle consumed a byte with Incomplete and wrote nothing: a header byte that raises no error. -/
def HeaderByteTaken (s : State) : Prop := s.out = .consumed .incomplete .none .none none

theorem HeaderByteTaken.incomplete {s : State} (h : HeaderByteTaken s) : Incomplete s := ⟨none, h⟩

/-- The state the step of the fed byte `b` starts from (R42, R120). -/
def State.feed (s : State) (b : Byte) (rest : List Pins) : State :=
  { s with pins := byteCycle b, pending := rest, out := .consumed .incomplete .none .none none }

variable {s : State} {b : Byte} {bs cs : List Byte} {rest : List Pins}

@[simp] theorem byteCycles_cons : byteCycles (b :: bs) = byteCycle b :: byteCycles bs := rfl

@[simp] theorem byteCycles_append : byteCycles (bs ++ cs) = byteCycles bs ++ byteCycles cs := List.map_append

theorem latch_beginStep (s : State) (b : Byte) (rest : List Pins) :
    (s.latch (byteCycle b) rest).beginStep = s.feed b rest := rfl

theorem step_b0 (hp : s.phase = .b0) (h : s.pending = byteCycle b :: rest) :
    step s = .next (stepB0 (byteZeroOf (decodeByte b)) (s.feed b rest)) := by
  have hi : instrInFlight (s.latch (byteCycle b) rest) = decodeByte b := by
    simp [instrInFlight, hp, byteCycle]
  rw [step_byteCycle h, exec_eq, frameByte_b0 _ (by exact hp), hi, latch_beginStep]

theorem step_b1 (hp : s.phase = .b1) (h : s.pending = byteCycle b :: rest) :
    step s = .next (stepB1 b (s.feed b rest)) := by
  rw [step_byteCycle h, exec_eq, frameByte_b1 _ (by exact hp), latch_beginStep]
  rfl

theorem step_ext (hp : s.phase = .ext) (h : s.pending = byteCycle b :: rest) :
    step s = .next (stepExt b (s.feed b rest)) := by
  rw [step_byteCycle h, exec_eq, frameByte_ext _ (by exact hp), latch_beginStep]
  rfl

theorem step_key (hp : s.phase = .key) (h : s.pending = byteCycle b :: rest) :
    step s = .next (stepKey b (s.feed b rest)) := by
  rw [step_byteCycle h, exec_eq, frameByte_key _ (by exact hp), latch_beginStep]
  rfl

theorem step_pay (hp : s.phase = .pay) (hm : exceedsPmax s = false) (h : s.pending = byteCycle b :: rest) :
    step s = .next (storePayload b (s.feed b rest)) := by
  have hm' : exceedsPmax (s.feed b rest) = false := hm
  rw [step_byteCycle h, exec_eq, frameByte_pay _ (by exact hp), latch_beginStep, stepPay, hm']
  rfl

/-- Byte 0 of an instruction is decoded to it (R81, R89). -/
theorem decodeByte_encodeByte (i : Instr) : decodeByte (encodeByte i) = i := by
  obtain ⟨hf, h1, h2, h3, ho⟩ := decodeByte_fields (encodeByte i)
  obtain ⟨bf, b1, b2, b3, bo⟩ := byteZero_bits i.fin i.rsv1 i.rsv2 i.rsv3 i.opcode
  rw [encodeByte_eq_byteZero] at *
  exact Instr.ext_fields (ho.trans bo) (hf.trans bf) (h1.trans b1) (h2.trans b2) (h3.trans b3)

theorem startViolation_eq_none {i : Instr} :
    startViolation i = none ↔
      registryValid i.opcode = true ∧ i.rsv1 = false ∧ i.rsv2 = false ∧ i.rsv3 = false := by
  unfold startViolation
  cases registryValid i.opcode <;> simp

/-- Byte 0 that violates nothing leads to PH_B1 with a new, empty frame (R121). -/
theorem step_startByte {i : Instr} (hp : s.phase = .b0) (hv : startViolation i = none)
    (h : s.pending = byteCycle (encodeByte i) :: rest) :
    step s = .next { newFrame (byteZeroOf i) (s.feed (encodeByte i) rest) with phase := .b1 } := by
  obtain ⟨hop, h1, h2, h3⟩ := startViolation_eq_none.mp hv
  rw [step_b0 hp h, decodeByte_encodeByte]
  rcases stepB0_cases (byteZeroOf i) (s.feed (encodeByte i) rest) with ⟨hf, _⟩ | ⟨_, hr, _⟩ | ⟨_, _, _, _, e⟩
  · simp [byteZeroOf, hop] at hf
  · simp [byteZeroOf, h1, h2, h3] at hr
  · rw [e]
    rfl

end Sys2Proof.Machine
end

section
/-! PROOF. The length field: the bytes of an encoded length, fed one a step, make `length_known` run on that length. -/

namespace Sys2Proof

theorem bigEndian_succ_eq_append (n v : Nat) : bigEndian (n + 1) v = bigEndian n (v / 256) ++ [BitVec.ofNat 8 v] := by
  induction n with
  | zero => simp [bigEndian]
  | succ n ih =>
    rw [bigEndian, ih, bigEndian, List.cons_append, Nat.div_div_eq_div_mul, pow_succ']

end Sys2Proof

namespace Sys2Proof.Machine

/-- Appending the low byte of `v` to the rest of `v` gives `v` (R124). -/
theorem appendLengthByte_ofNat (v : Nat) :
    appendLengthByte (BitVec.ofNat 64 (v / 256)) (BitVec.ofNat 8 v) = BitVec.ofNat 64 v := by
  apply BitVec.eq_of_getLsbD_eq
  intro k hk
  simp only [appendLengthByte, BitVec.getLsbD_or, BitVec.getLsbD_shiftLeft, BitVec.getLsbD_setWidth,
    BitVec.getLsbD_ofNat, hk]
  by_cases h8 : k < 8
  · simp [h8]
  · have hdiv : (v / 256).testBit (k - 8) = v.testBit (k - 8 + 8) := Nat.testBit_div_two_pow (n := 8) v (k - 8)
    rw [hdiv, Nat.sub_add_cancel (Nat.le_of_not_lt h8)]
    simp [h8]
    omega

/-- The big-endian bytes of a length, shifted in from 0, make that length (R83, R84, R124). -/
theorem foldl_appendLengthByte_bigEndian {n v : Nat} (hv : v < 256 ^ n) :
    (bigEndian n v).foldl appendLengthByte 0#64 = BitVec.ofNat 64 v := by
  induction n generalizing v with
  | zero =>
    obtain rfl : v = 0 := by simpa using hv
    rfl
  | succ n ih =>
    have hd : v / 256 < 256 ^ n := Nat.div_lt_of_lt_mul (by rwa [pow_succ'] at hv)
    rw [bigEndian_succ_eq_append, List.foldl_append, ih hd]
    exact appendLengthByte_ofNat v

theorem extNeed_toNat_le (l : BitVec 7) : (extNeed l).toNat ≤ 8 := by
  unfold extNeed
  split <;> decide

theorem cnt_succ_toNat {c : BitVec 4} (h : c.toNat < 8) : (c + 1#4).toNat = c.toNat + 1 := by
  rw [BitVec.toNat_add]
  exact Nat.mod_eq_of_lt (show c.toNat + 1 < 2 ^ 4 by omega)

/-- The extended-length bytes, from any CNT on: Incomplete on each but the last, and on the last `length_known` of the
length they make (R124). -/
theorem lengthKnown_of_extBytes {s : State} {xs : List Byte} {b : Byte} {rest : List Pins} (hp : s.phase = .ext)
    (hc : s.cnt.toNat + (xs.length + 1) = (extNeed s.len7).toNat)
    (h : s.pending = byteCycles (xs ++ [b]) ++ rest) :
    ∃ (t : State) (c : BitVec 4) (p : Pins), RunThrough HeaderByteTaken xs.length s t ∧
      step t = .next (lengthKnown s.fin s.opcode ((xs ++ [b]).foldl appendLengthByte s.payloadLength) s.masked
        { s with
          payloadLength := (xs ++ [b]).foldl appendLengthByte s.payloadLength, cnt := c, pins := p
          pending := rest, out := .consumed .incomplete .none .none none }) := by
  have hle := extNeed_toNat_le s.len7
  induction xs generalizing s with
  | nil =>
    simp only [List.length_nil] at hc
    have hlast : s.cnt + 1#4 = extNeed s.len7 := BitVec.eq_of_toNat_eq (by rw [cnt_succ_toNat (by omega), ← hc])
    rcases stepExt_cases b (s.feed b rest) with ⟨_, e⟩ | ⟨hne, _⟩
    · exact ⟨s, _, _, .refl s, (step_ext hp h).trans (congrArg _ e)⟩
    · exact absurd hlast hne
  | cons x xs ih =>
    simp only [List.length_cons] at hc
    have hcnt : (s.cnt + 1#4).toNat = s.cnt.toNat + 1 := cnt_succ_toNat (by omega)
    rcases stepExt_cases x (s.feed x (byteCycles (xs ++ [b]) ++ rest)) with ⟨heq, _⟩ | ⟨_, e⟩
    · have hlast : (s.cnt + 1#4).toNat = (extNeed s.len7).toNat := congrArg BitVec.toNat heq
      omega
    · have hs := (step_ext hp h).trans (congrArg _ e)
      have hc' : (s.cnt + 1#4).toNat + (xs.length + 1) = (extNeed s.len7).toNat := by omega
      obtain ⟨t, c, p, hrun, hstep⟩ := ih
        (s := { s.feed x (byteCycles (xs ++ [b]) ++ rest) with
          payloadLength := appendLengthByte s.payloadLength x, cnt := s.cnt + 1#4 }) hp hc' rfl hle
      exact ⟨t, c, p, .head hs rfl hrun, hstep⟩

end Sys2Proof.Machine
end

section
/-! PROOF. The header of an accepted frame, from byte 0 to `header_complete`. -/

namespace Sys2Proof.Machine

variable {s : State} {b : Byte} {m : Bool} {l : BitVec 7} {rest : List Pins}

/-- Byte 1 with the policy's MASK bit and a literal length: the length is known (R122, R123). -/
theorem stepB1_literal (hm : m = s.maskReq) (hl : l ≤ 125#7) :
    stepB1 (byteOne m l) s = lengthKnown s.fin s.opcode (literalLength l) m
      { s with masked := m, len7 := l, payloadLength := literalLength l } := by
  obtain ⟨hb, hi⟩ : maskBit (byteOne m l) = m ∧ lengthIndicator (byteOne m l) = l := byteOne_bits m l
  rcases stepB1_cases (byteOne m l) s with ⟨hne, _⟩ | ⟨_, _, e⟩ | ⟨_, hgt, _⟩
  · exact absurd (hb.trans hm) hne
  · rw [e, hb, hi]
  · exact absurd (hi.symm ▸ hl) hgt

/-- Byte 1 with the policy's MASK bit and an indicator of an extended length (R123). -/
theorem stepB1_extended (hm : m = s.maskReq) (hl : ¬l ≤ 125#7) :
    stepB1 (byteOne m l) s =
      { s with masked := m, len7 := l, phase := .ext, cnt := 0#4, out := s.out.withSignal .incomplete .none .none } := by
  obtain ⟨hb, hi⟩ : maskBit (byteOne m l) = m ∧ lengthIndicator (byteOne m l) = l := byteOne_bits m l
  rcases stepB1_cases (byteOne m l) s with ⟨hne, _⟩ | ⟨_, hle, _⟩ | ⟨_, _, e⟩
  · exact absurd (hb.trans hm) hne
  · exact absurd (hi ▸ hle) hl
  · rw [e, hb, hi]

/-- A length up to 125 is its own indicator (R82, R95). -/
theorem literal_indicator {n : Nat} (hn : n ≤ 125) :
    BitVec.ofNat 7 n ≤ 125#7 ∧ literalLength (BitVec.ofNat 7 n) = BitVec.ofNat 64 n := by
  constructor
  · rw [BitVec.le_def, BitVec.toNat_ofNat]
    exact (Nat.mod_le n _).trans hn
  · rw [literalLength, BitVec.setWidth_ofNat_of_le_of_lt (by decide) (show n < 2 ^ 7 by omega)]

/-- Byte 1 and `k + 1` extended-length bytes: on the last, `length_known` of the length they announce. -/
theorem lengthKnown_of_extended {k n : Nat} (hp : s.phase = .b1) (h0 : s.payloadLength = 0#64) (hm : m = s.maskReq)
    (hl : ¬l ≤ 125#7) (hk : (extNeed l).toNat = k + 1) (hn : n < 256 ^ (k + 1))
    (h : s.pending = byteCycles (byteOne m l :: bigEndian (k + 1) n) ++ rest) :
    ∃ (t : State) (ph : Phase) (c : BitVec 4) (p : Pins), RunThrough HeaderByteTaken (k + 1) s t ∧
      step t = .next (lengthKnown s.fin s.opcode (BitVec.ofNat 64 n) m
        { s with
          phase := ph, cnt := c, masked := m, len7 := l, payloadLength := BitVec.ofNat 64 n
          pins := p, pending := rest, out := .consumed .incomplete .none .none none }) := by
  have hfold := foldl_appendLengthByte_bigEndian hn
  rw [bigEndian_succ_eq_append] at h hfold
  have hs := (step_b1 hp h).trans (congrArg _ (stepB1_extended (by exact hm) hl))
  obtain ⟨t, c, p, hrun, hstep⟩ := lengthKnown_of_extBytes
    (s := { s.feed (byteOne m l) (byteCycles (bigEndian k (n / 256) ++ [BitVec.ofNat 8 n]) ++ rest) with
      masked := m, len7 := l, phase := .ext, cnt := 0#4 })
    rfl (by simp [bigEndian_length, hk]) rfl
  simp only [State.feed, h0, hfold] at hstep
  rw [bigEndian_length] at hrun
  exact ⟨t, _, c, p, .head hs rfl hrun, hstep⟩

/-- Byte 1 and the extended-length bytes of a form: on the last of them, `length_known` of the payload's length. -/
theorem lengthKnown_of_byteOne {form : LenForm} {n : Nat} (hp : s.phase = .b1) (h0 : s.payloadLength = 0#64)
    (hm : m = s.maskReq) (hn : n ≤ form.maxLength)
    (h : s.pending = byteCycles (byteOne m (form.indicator n) :: bigEndian form.extBytes n) ++ rest) :
    ∃ (t : State) (ph : Phase) (c : BitVec 4) (p : Pins), RunThrough HeaderByteTaken form.extBytes s t ∧
      step t = .next (lengthKnown s.fin s.opcode (BitVec.ofNat 64 n) m
        { s with
          phase := ph, cnt := c, masked := m, len7 := form.indicator n, payloadLength := BitVec.ofNat 64 n
          pins := p, pending := rest, out := .consumed .incomplete .none .none none }) := by
  cases form with
  | literal =>
    obtain ⟨hle, hlit⟩ := literal_indicator hn
    have hs := (step_b1 hp h).trans (congrArg _ (stepB1_literal (by exact hm) hle))
    rw [← hlit]
    exact ⟨s, _, _, _, .refl s, hs⟩
  | ext16 =>
    have hn' : n < 256 ^ (1 + 1) := Nat.lt_succ_of_le hn
    exact lengthKnown_of_extended (k := 1) (l := 126#7) hp h0 hm (by decide) rfl hn' h
  | ext64 =>
    have hn' : n < 256 ^ (7 + 1) := Nat.lt_of_le_pred (by norm_num) hn
    exact lengthKnown_of_extended (k := 7) (l := 127#7) hp h0 hm (by decide) rfl hn' h

/-- `s` with a new frame of `i` whose byte 1, length and `key` are taken in; PHASE, CNT and the pins are those of the
moment, and no later byte of the frame than these has been fed. -/
def headerTaken (i : Instr) (o : Operands) (key : MaskKey) (s : State) (rest : List Pins) (ph : Phase) (c : BitVec 4)
    (p : Pins) : State :=
  { newFrame (byteZeroOf i) s with
    phase := ph
    cnt := c
    masked := o.key.isSome
    len7 := o.form.indicator o.payload.length
    payloadLength := BitVec.ofNat 64 o.payload.length
    maskKey := key
    pins := p
    pending := rest
    out := .consumed .incomplete .none .none none }

/-- From PH_B0, the bytes of a frame up to its last length byte, where `length_known` runs (R121 to R124). -/
theorem lengthKnown_of_frameStart {i : Instr} {o : Operands} (hp : s.phase = .b0) (hv : startViolation i = none)
    (hm : o.key.isSome = s.maskReq) (hfit : o.payload.length ≤ o.form.maxLength)
    (h : s.pending = byteCycles (encodeByte i :: byteOne o.key.isSome (o.form.indicator o.payload.length) ::
      bigEndian o.form.extBytes o.payload.length) ++ rest) :
    ∃ (t : State) (ph : Phase) (c : BitVec 4) (p : Pins), RunThrough HeaderByteTaken (o.form.extBytes + 1) s t ∧
      step t = .next (lengthKnown i.fin i.opcode (BitVec.ofNat 64 o.payload.length) o.key.isSome
        (headerTaken i o zeroKey s rest ph c p)) := by
  have hs := step_startByte hp hv h
  obtain ⟨t, ph, c, p, hrun, hstep⟩ := lengthKnown_of_byteOne
    (s := { newFrame (byteZeroOf i) (s.feed (encodeByte i) _) with phase := .b1 }) rfl rfl hm hfit rfl
  exact ⟨t, ph, c, p, .head hs rfl hrun, hstep⟩

theorem lengthKnown_masked {fin : Bool} {op : BitVec 4} {plen : Word64}
    (hctl : isControlOp op = true → fin = true ∧ plen ≤ 125#64) :
    lengthKnown fin op plen true s = { s with phase := .key, cnt := 0#4 }.emit .incomplete .none .none := by
  rcases lengthKnown_cases fin op plen true s with ⟨hc, hf, _⟩ | ⟨hc, _, hl, _⟩ | ⟨_, _, e⟩ | ⟨_, hm, _⟩
  · simp [(hctl hc).1] at hf
  · exact absurd hl (BitVec.not_lt.mpr (hctl hc).2)
  · exact e
  · cases hm

theorem lengthKnown_unmasked {fin : Bool} {op : BitVec 4} {plen : Word64}
    (hctl : isControlOp op = true → fin = true ∧ plen ≤ 125#64) :
    lengthKnown fin op plen false s = headerComplete plen s := by
  rcases lengthKnown_cases fin op plen false s with ⟨hc, hf, _⟩ | ⟨hc, _, hl, _⟩ | ⟨_, hm, _⟩ | ⟨_, _, e⟩
  · simp [(hctl hc).1] at hf
  · exact absurd hl (BitVec.not_lt.mpr (hctl hc).2)
  · cases hm
  · exact e

/-- A key byte that is not the fourth is recorded and counted (R125). -/
theorem step_keyByte {c : BitVec 4} (hp : s.phase = .key) (hc : s.cnt = c) (hne : c + 1#4 ≠ 4#4)
    (h : s.pending = byteCycle b :: rest) :
    step s = .next { s.feed b rest with maskKey := setKeyByte s.maskKey c.toNat b, cnt := c + 1#4 } := by
  subst hc
  rw [step_key hp h]
  rcases stepKey_cases b (s.feed b rest) with ⟨heq, _⟩ | ⟨_, e⟩
  · exact absurd heq hne
  · rw [e]
    rfl

/-- The fourth key byte completes the header (R125). -/
theorem step_lastKeyByte (hp : s.phase = .key) (hc : s.cnt = 3#4) (h : s.pending = byteCycle b :: rest) :
    step s = .next (headerComplete s.payloadLength
      { s.feed b rest with maskKey := setKeyByte s.maskKey 3 b, cnt := 4#4 }) := by
  have hcf : (s.feed b rest).cnt = 3#4 := hc
  rw [step_key hp h]
  rcases stepKey_cases b (s.feed b rest) with ⟨_, e⟩ | ⟨hne, _⟩
  · rw [e, hcf]
    rfl
  · rw [hcf] at hne
    exact absurd rfl hne

/-- The four key bytes: `header_complete` runs on the fourth, with the whole key recorded. -/
theorem headerComplete_of_keyBytes {k : MaskKey} (hp : s.phase = .key) (hc : s.cnt = 0#4)
    (h : s.pending = byteCycles (keyBytes (some k)) ++ rest) :
    ∃ (t : State) (c : BitVec 4) (p : Pins), RunThrough HeaderByteTaken 3 s t ∧
      step t = .next (headerComplete s.payloadLength
        { s with
          maskKey := k, cnt := c, pins := p, pending := rest, out := .consumed .incomplete .none .none none }) := by
  have run := (RunThrough.refl (P := HeaderByteTaken) s).snoc (step_keyByte hp hc (by decide) h) rfl
  have run := run.snoc (step_keyByte (c := 1#4) (by exact hp) rfl (by decide) rfl) rfl
  have run := run.snoc (step_keyByte (c := 2#4) (by exact hp) rfl (by decide) rfl) rfl
  exact ⟨_, _, _, run, step_lastKeyByte (by exact hp) rfl rfl⟩

/-- What a frame without a violation of its operands promises `length_known` (R183 to R185). -/
theorem operandViolation_eq_none {mr : Bool} {i : Instr} {o : Operands} :
    operandViolation mr i o = none ↔
      o.key.isSome = mr ∧ (isControlOp i.opcode = true → i.fin = true ∧ o.payload.length ≤ 125) := by
  unfold operandViolation
  by_cases hm : o.key.isSome = mr
  · by_cases hc : isControlOp i.opcode = true
    · cases i.fin <;> simp [hm, hc]
    · simp [hm, hc]
  · simp [hm]

theorem ofNat64_toNat {n : Nat} (hn : n < 2 ^ 64) : (BitVec.ofNat 64 n).toNat = n := by
  rw [BitVec.toNat_ofNat, Nat.mod_eq_of_lt hn]

theorem maxLength_lt (form : LenForm) : form.maxLength < 2 ^ 64 := by
  cases form <;> decide

/-- From PH_B0, the header of a frame that violates nothing: its last byte completes the header (R121 to R127). -/
theorem headerComplete_of_frameHeader {i : Instr} {o : Operands} (hp : s.phase = .b0) (hv : startViolation i = none)
    (ho : operandViolation s.maskReq i o = none) (hfit : o.payload.length ≤ o.form.maxLength)
    (h : s.pending = byteCycles (encodeByte i :: byteOne o.key.isSome (o.form.indicator o.payload.length) ::
      (bigEndian o.form.extBytes o.payload.length ++ keyBytes o.key)) ++ rest) :
    ∃ (t : State) (ph : Phase) (c : BitVec 4) (p : Pins),
      RunThrough HeaderByteTaken (o.form.extBytes + (keyBytes o.key).length + 1) s t ∧
      step t = .next (headerComplete (BitVec.ofNat 64 o.payload.length)
        (headerTaken i o (o.key.getD zeroKey) s rest ph c p)) := by
  obtain ⟨hm, hctl⟩ := operandViolation_eq_none.mp ho
  have hlt : o.payload.length < 2 ^ 64 := hfit.trans_lt (maxLength_lt o.form)
  have hctl' : isControlOp i.opcode = true → i.fin = true ∧ BitVec.ofNat 64 o.payload.length ≤ 125#64 := fun hc => by
    refine ⟨(hctl hc).1, ?_⟩
    rw [BitVec.le_def, ofNat64_toNat hlt]
    exact (hctl hc).2
  obtain ⟨t, ph, c, p, hrun, hstep⟩ := lengthKnown_of_frameStart (rest := byteCycles (keyBytes o.key) ++ rest)
    hp hv hm hfit (by simpa using h)
  cases hk : o.key with
  | none =>
    rw [hk, Option.isSome_none, lengthKnown_unmasked hctl'] at hstep
    exact ⟨t, ph, c, p, hrun, hstep⟩
  | some k =>
    rw [hk, Option.isSome_some, lengthKnown_masked hctl'] at hstep
    obtain ⟨t', c', p', hrun', hstep'⟩ := headerComplete_of_keyBytes (k := k) (rest := rest)
      (s := { headerTaken i o zeroKey s (byteCycles (keyBytes (some k)) ++ rest) ph c p with
        phase := .key, cnt := 0#4 }.emit .incomplete .none .none) rfl rfl rfl
    refine ⟨t', _, c', p', ?_, hstep'⟩
    have run := (hrun.snoc hstep rfl).trans hrun'
    rwa [Nat.add_comm] at run

end Sys2Proof.Machine
end

section
/-! PROOF. The payload: the wire bytes, fed one a step, store the unmasked payload cell by cell. -/

namespace Sys2Proof.Machine

/-- PMEM with the bytes `bs` in the cells from `a` on. -/
def Memory.writeFrom : Memory → Nat → List Byte → Memory
  | m, _, [] => m
  | m, a, b :: bs => Memory.writeFrom (Memory.write m a b) (a + 1) bs

theorem Memory.writeFrom_append (m : Memory) (a : Nat) (bs cs : List Byte) :
    Memory.writeFrom m a (bs ++ cs) = Memory.writeFrom (Memory.writeFrom m a bs) (a + bs.length) cs := by
  induction bs generalizing m a with
  | nil => rfl
  | cons b bs ih => simp [Memory.writeFrom, ih, Nat.add_assoc, Nat.add_comm 1]

/-- A cell outside the written range keeps its byte. -/
theorem Memory.read_writeFrom_other (m : Memory) {a x : Nat} (bs : List Byte) (h : x < a ∨ a + bs.length ≤ x) :
    Memory.read (Memory.writeFrom m a bs) x = Memory.read m x := by
  induction bs generalizing m a with
  | nil => rfl
  | cons b bs ih =>
    simp only [List.length_cons] at h
    rw [Memory.writeFrom, ih _ (by omega), Memory.read_write_other _ _ (by omega)]

/-- A cell inside the written range holds its byte of the list. -/
theorem Memory.read_writeFrom (m : Memory) (a : Nat) {bs : List Byte} {j : Nat} (hj : j < bs.length) :
    Memory.read (Memory.writeFrom m a bs) (a + j) = bs[j]? := by
  induction bs generalizing m a j with
  | nil => simp at hj
  | cons b bs ih =>
    cases j with
    | zero => simp [Memory.writeFrom, Memory.read_writeFrom_other]
    | succ j =>
      have hj' : j < bs.length := by simpa using hj
      simpa [Memory.writeFrom, Nat.add_comm, Nat.add_left_comm] using ih (Memory.write m a b) (a + 1) hj'

theorem xorPayload_append (key : MaskKey) (i : Nat) (bs cs : List Byte) :
    xorPayload key i (bs ++ cs) = xorPayload key i bs ++ xorPayload key (i + bs.length) cs := by
  induction bs generalizing i with
  | nil => rfl
  | cons b bs ih => simp [xorPayload, ih, Nat.add_assoc, Nat.add_comm 1]

/-- Unmasking a masked byte gives it back (R141). -/
@[simp] theorem unmask_unmask (b : Byte) (i : Nat) (key : MaskKey) : unmask (unmask b i key) i key = b := by
  simp [unmask]

variable {s : State} {rest : List Pins}

/-- A payload byte that is not the last is stored and counted (R140). -/
theorem step_payloadByte {b : Byte} (hp : s.phase = .pay) (hm : exceedsPmax s = false)
    (hne : s.payCnt + 1#64 ≠ s.payloadLength)
    (h : s.pending = byteCycle (unmask b s.payCnt.toNat s.maskKey) :: rest) :
    step s = .next { s with
      pmem := Memory.write s.pmem s.payCnt.toNat b
      payCnt := s.payCnt + 1#64
      window := 0#64
      pins := byteCycle (unmask b s.payCnt.toNat s.maskKey)
      pending := rest
      out := .consumed .incomplete .none .none (some ⟨s.payCnt, b⟩) } := by
  rw [step_pay hp hm h]
  rcases storePayload_cases (unmask b s.payCnt.toNat s.maskKey) (s.feed (unmask b s.payCnt.toNat s.maskKey) rest)
    with ⟨heq, _⟩ | ⟨_, e⟩
  · exact absurd heq hne
  · rw [e]
    simp [State.feed]

/-- The last payload byte is stored and completes the frame with its type's control action (R140, R150). -/
theorem step_lastPayloadByte {b : Byte} (hp : s.phase = .pay) (hm : exceedsPmax s = false)
    (hlast : s.payCnt + 1#64 = s.payloadLength)
    (h : s.pending = byteCycle (unmask b s.payCnt.toNat s.maskKey) :: rest) :
    step s = .next { s with
      pmem := Memory.write s.pmem s.payCnt.toNat b
      payCnt := s.payloadLength
      window := s.payloadLength
      phase := .b0
      pins := byteCycle (unmask b s.payCnt.toNat s.maskKey)
      pending := rest
      out := .consumed .frameComplete .none (completionAction s.opcode) (some ⟨s.payCnt, b⟩) } := by
  rw [step_pay hp hm h]
  rcases storePayload_cases (unmask b s.payCnt.toNat s.maskKey) (s.feed (unmask b s.payCnt.toNat s.maskKey) rest)
    with ⟨_, e⟩ | ⟨hne, _⟩
  · rw [e]
    simp [State.feed, hlast]
  · exact absurd hlast hne

/-- Payload bytes short of the last, from any PAY_CNT on: Incomplete on each, and their unmasked values in PMEM
(R140). -/
theorem run_payloadBytes {bs : List Byte} (hp : s.phase = .pay) (hm : exceedsPmax s = false)
    (hlt : s.payCnt.toNat + bs.length < s.payloadLength.toNat)
    (h : s.pending = byteCycles (xorPayload s.maskKey s.payCnt.toNat bs) ++ rest) :
    ∃ (win : Word64) (p : Pins) (out : Outputs), RunThrough Incomplete bs.length s
      { s with
        payCnt := BitVec.ofNat 64 (s.payCnt.toNat + bs.length)
        pmem := Memory.writeFrom s.pmem s.payCnt.toNat bs
        window := win, pins := p, pending := rest, out := out } := by
  induction bs generalizing s with
  | nil =>
    refine ⟨s.window, s.pins, s.out, ?_⟩
    have hrest : s.pending = rest := h
    simpa [Memory.writeFrom, ← hrest] using RunThrough.refl (P := Incomplete) s
  | cons b bs ih =>
    simp only [List.length_cons] at hlt ⊢
    have hcnt : (s.payCnt + 1#64).toNat = s.payCnt.toNat + 1 := by
      have := s.payloadLength.isLt
      rw [BitVec.toNat_add]
      exact Nat.mod_eq_of_lt (show s.payCnt.toNat + 1 < 2 ^ 64 by omega)
    have hne : s.payCnt + 1#64 ≠ s.payloadLength := fun heq => by rw [← heq] at hlt; omega
    have hs := step_payloadByte hp hm hne h
    obtain ⟨win, p, out, hrun⟩ := ih
      (s := { s with
        pmem := Memory.write s.pmem s.payCnt.toNat b, payCnt := s.payCnt + 1#64, window := 0#64
        pins := byteCycle (unmask b s.payCnt.toNat s.maskKey)
        pending := byteCycles (xorPayload s.maskKey (s.payCnt.toNat + 1) bs) ++ rest
        out := .consumed .incomplete .none .none (some ⟨s.payCnt, b⟩) })
      hp hm (by simp only [hcnt]; omega) (by simp only [hcnt])
    simp only [hcnt, Nat.add_assoc, Nat.add_comm 1] at hrun
    exact ⟨win, p, out, .head hs ⟨_, rfl⟩ hrun⟩

/-- The whole payload of a frame, the last byte apart: the last byte completes the frame (R140, R150). -/
theorem frameComplete_of_payload {bs : List Byte} {b : Byte} (hp : s.phase = .pay) (hm : exceedsPmax s = false)
    (hc : s.payCnt = 0#64) (hlen : s.payloadLength.toNat = bs.length + 1)
    (h : s.pending = byteCycles (xorPayload s.maskKey 0 (bs ++ [b])) ++ rest) :
    ∃ (t : State) (p : Pins) (w : Option PayloadWrite), RunThrough Incomplete bs.length s t ∧
      step t = .next { s with
        pmem := Memory.writeFrom s.pmem 0 (bs ++ [b])
        payCnt := s.payloadLength
        window := s.payloadLength
        phase := .b0
        pins := p
        pending := rest
        out := .consumed .frameComplete .none (completionAction s.opcode) w } := by
  have hcn : s.payCnt.toNat = 0 := by simp [hc]
  have hbl := ofNat64_toNat (n := bs.length) (by have := s.payloadLength.isLt; omega)
  have hlast : BitVec.ofNat 64 bs.length + 1#64 = s.payloadLength :=
    BitVec.eq_of_toNat_eq (by rw [BitVec.toNat_add, hbl, hlen]; exact Nat.mod_eq_of_lt (hlen ▸ s.payloadLength.isLt))
  obtain ⟨win, p, out, hrun⟩ := run_payloadBytes (bs := bs)
    (rest := byteCycle (unmask b bs.length s.maskKey) :: rest) hp hm (by omega)
    (by rw [h, hcn, xorPayload_append]; simp [xorPayload, byteCycles])
  rw [hcn, Nat.zero_add] at hrun
  have hs := step_lastPayloadByte (b := b) (rest := rest)
    (s := { s with
        payCnt := BitVec.ofNat 64 bs.length
        pmem := Memory.writeFrom s.pmem 0 bs
        window := win, pins := p, pending := byteCycle (unmask b bs.length s.maskKey) :: rest, out := out })
    hp hm hlast (by simp only [hbl])
  simp only [hbl] at hs
  rw [Memory.writeFrom_append, Nat.zero_add]
  exact ⟨_, _, _, hrun, hs⟩

end Sys2Proof.Machine
end

section
/-! PROOF. O51: an accepted frame is delivered. -/

namespace Sys2Proof.Machine

/-- `u` shows the frame of `i` and `o`, just completed after `s` and before the cycles `rest`: its registers, its payload
in PMEM, the window open on it if there is one, and FrameComplete; CNT and the pins are those of the moment. -/
def FrameShown (i : Instr) (o : Operands) (s : State) (rest : List Pins) (u : State) : Prop :=
  ∃ (c : BitVec 4) (p : Pins) (w : Option PayloadWrite),
    u = { newFrame (byteZeroOf i) s with
      phase := .b0
      cnt := c
      payCnt := BitVec.ofNat 64 o.payload.length
      masked := o.key.isSome
      len7 := o.form.indicator o.payload.length
      payloadLength := BitVec.ofNat 64 o.payload.length
      maskKey := o.key.getD zeroKey
      pmem := Memory.writeFrom s.pmem 0 o.payload
      window := if o.payload = [] then s.window else BitVec.ofNat 64 o.payload.length
      pins := p
      pending := rest
      out := .consumed .frameComplete .none (completionAction i.opcode) w }

variable {i : Instr} {o : Operands} {s u : State} {rest : List Pins}

theorem headerComplete_empty (hnil : o.payload = []) (key : MaskKey) (ph : Phase) (c : BitVec 4) (p : Pins) :
    headerComplete (BitVec.ofNat 64 o.payload.length) (headerTaken i o key s rest ph c p) =
      frameComplete (headerTaken i o key s rest ph c p) := by
  rw [hnil]
  exact if_pos rfl

theorem headerComplete_nonempty (hne : o.payload ≠ []) (hlt : o.payload.length < 2 ^ 64) (key : MaskKey) (ph : Phase)
    (c : BitVec 4) (p : Pins) :
    headerComplete (BitVec.ofNat 64 o.payload.length) (headerTaken i o key s rest ph c p) =
      headerTaken i o key s rest .pay c p := by
  have hnz : BitVec.ofNat 64 o.payload.length ≠ 0#64 := fun h0 => by
    have h0' := congrArg BitVec.toNat h0
    rw [ofNat64_toNat hlt] at h0'
    exact hne (List.length_eq_zero_iff.mp h0')
  exact if_neg hnz

/-- From PH_B0, the whole header of a frame with a payload leads to PH_PAY, with Incomplete on every byte. -/
theorem run_frameHeader (hp : s.phase = .b0) (hv : startViolation i = none)
    (ho : operandViolation s.maskReq i o = none) (hfit : o.payload.length ≤ o.form.maxLength) (hne : o.payload ≠ [])
    (h : s.pending = byteCycles (encodeFrame ⟨i, some o⟩) ++ rest) :
    ∃ (c : BitVec 4) (p : Pins), RunThrough HeaderByteTaken (o.form.extBytes + (keyBytes o.key).length + 2) s
      (headerTaken i o (o.key.getD zeroKey) s
        (byteCycles (xorPayload (o.key.getD zeroKey) 0 o.payload) ++ rest) .pay c p) := by
  obtain ⟨t, ph, c, p, hrun, hstep⟩ := headerComplete_of_frameHeader hp hv ho hfit
    (by simpa [encodeFrame, encodeOperands] using h)
  rw [headerComplete_nonempty hne (hfit.trans_lt (maxLength_lt o.form))] at hstep
  exact ⟨c, p, hrun.snoc hstep rfl⟩

theorem encodeFrame_length (i : Instr) (o : Operands) :
    (encodeFrame ⟨i, some o⟩).length = o.form.extBytes + (keyBytes o.key).length + 2 + o.payload.length := by
  simp only [encodeFrame, encodeOperands, List.length_cons, List.length_append, bigEndian_length, xorPayload_length]
  omega

theorem exceedsPmax_eq_false (h : ∀ n, s.pmax = some n → s.payloadLength.toNat ≤ n) : exceedsPmax s = false := by
  unfold exceedsPmax
  cases hp : s.pmax with
  | none => rfl
  | some n => simpa using h n hp

/-- From PH_B0, the bytes of a frame that violates nothing and that PMAX holds: Incomplete on each but the last, and the
last completes the frame (R120 to R127, R140, R150). -/
theorem frameShown_of_frame (hp : s.phase = .b0) (hv : startViolation i = none)
    (ho : operandViolation s.maskReq i o = none) (hfit : o.payload.length ≤ o.form.maxLength)
    (hpmax : ∀ n, s.pmax = some n → o.payload.length ≤ n)
    (h : s.pending = byteCycles (encodeFrame ⟨i, some o⟩) ++ rest) :
    ∃ (n : Nat) (t u : State), (encodeFrame ⟨i, some o⟩).length = n + 1 ∧ RunThrough Incomplete n s t ∧
      step t = .next u ∧ FrameShown i o s rest u := by
  have hplen := ofNat64_toNat (hfit.trans_lt (maxLength_lt o.form))
  rw [encodeFrame_length]
  rcases List.eq_nil_or_concat' o.payload with hnil | ⟨bs, b, hbs⟩
  · obtain ⟨t, ph, c, p, hrun, hstep⟩ := headerComplete_of_frameHeader (rest := rest) hp hv ho hfit
      (by simpa [encodeFrame, encodeOperands, hnil, xorPayload] using h)
    rw [headerComplete_empty hnil] at hstep
    refine ⟨_, t, _, by rw [hnil]; rfl, hrun.mono fun _ => HeaderByteTaken.incomplete, hstep, c, p, none, ?_⟩
    simp [hnil, headerTaken, frameComplete_eq, Memory.writeFrom, byteZeroOf]
  · have hlen : o.payload.length = bs.length + 1 := by simp [hbs]
    obtain ⟨c, p, hrun⟩ := run_frameHeader hp hv ho hfit (by simp [hbs]) h
    obtain ⟨t, p', w, hrun', hstep⟩ := frameComplete_of_payload (bs := bs) (b := b) (rest := rest)
      (s := headerTaken i o (o.key.getD zeroKey) s
        (byteCycles (xorPayload (o.key.getD zeroKey) 0 o.payload) ++ rest) .pay c p)
      rfl (exceedsPmax_eq_false fun n hn => hplen.trans_le (hpmax n hn)) rfl (hplen.trans hlen) (by rw [← hbs]; rfl)
    have run := (hrun.mono fun _ => HeaderByteTaken.incomplete).trans hrun'
    refine ⟨_, t, _, by rw [hlen]; omega, run, hstep, c, p', w, ?_⟩
    simp [headerTaken, hbs, byteZeroOf]

theorem firstViolation_eq_none {mr : Bool} :
    firstViolation mr ⟨i, some o⟩ = none ↔ startViolation i = none ∧ operandViolation mr i o = none := by
  unfold firstViolation
  cases startViolation i <;> simp

theorem wf_frame : (Frame.mk i (some o)).wf = true ↔
    registryValid i.opcode = true ∧ o.payload.length ≤ o.form.maxLength := by
  simp [Frame.wf, Operands.lengthFits]

/-- The record of R43, where the registry gives a type and the payload is in PMEM. -/
theorem frameView_eq_some {t : FrameType} {bs : List Byte} (ht : registryType s.opcode = some t)
    (hbs : readPayload s.pmem 0 s.payloadLength.toNat = some bs) :
    frameView s = some {
      fin := s.fin, rsv1 := s.rsv1, rsv2 := s.rsv2, rsv3 := s.rsv3, frameType := t, masked := s.masked
      maskKey := if s.masked then some s.maskKey else none
      payloadLength := s.payloadLength, payload := bs } := by
  simp [frameView, ht, hbs]

/-- The Frame shown is the frame (R43). -/
theorem FrameShown.deliveredFrame {t : FrameType} (hu : FrameShown i o s rest u) (ht : registryType i.opcode = some t)
    (hv : startViolation i = none) (hlt : o.payload.length < 2 ^ 64) :
    deliveredFrame u = some (frameObsOf t i o) := by
  obtain ⟨-, h1, h2, h3⟩ := startViolation_eq_none.mp hv
  obtain ⟨c, p, w, rfl⟩ := hu
  have hread : readPayload (Memory.writeFrom s.pmem 0 o.payload) 0 (BitVec.ofNat 64 o.payload.length).toNat =
      some o.payload := by
    rw [ofNat64_toNat hlt]
    exact readPayload_eq_some.mpr ⟨rfl, fun j hj => Memory.read_writeFrom s.pmem 0 hj⟩
  refine (frameView_eq_some (by exact ht) (by exact hread)).trans ?_
  cases hk : o.key <;> simp [frameObsOf, byteZeroOf, h1, h2, h3, hk]

/-- The consumer's reads of the payload answer it (R63, R72). -/
theorem FrameShown.memRead (hu : FrameShown i o s rest u) (hlt : o.payload.length < 2 ^ 64) {a : Word64} (draw : Nat)
    (ha : a.toNat < o.payload.length) : o.payload[a.toNat]? = some (memRead u a draw) := by
  obtain ⟨c, p, w, rfl⟩ := hu
  have hne : o.payload ≠ [] := List.ne_nil_of_length_pos (by omega)
  have hwin : a < BitVec.ofNat 64 o.payload.length := by
    rwa [BitVec.lt_def, ofNat64_toNat hlt]
  have hread := Memory.read_writeFrom s.pmem 0 ha
  rw [Nat.zero_add] at hread
  simp [Machine.memRead, hne, hwin, hread, ha]

/-- Settles O51: the header's bytes lead to `header_complete`, the payload's bytes store the unmasked payload, and the
state of the last byte shows the frame. -/
theorem acceptedFrameIsDelivered : Obligations.AcceptedFrameIsDelivered := by
  intro f o t s rest hwf ho ht hviol hpmax hp h
  obtain ⟨i, ops⟩ := f
  obtain rfl : ops = some o := ho
  obtain ⟨-, hfit⟩ := wf_frame.mp hwf
  have hlt := hfit.trans_lt (maxLength_lt o.form)
  obtain ⟨hv, hov⟩ := firstViolation_eq_none.mp hviol
  obtain ⟨n, v, u, hn, hrun, hstep, hu⟩ := frameShown_of_frame hp hv hov hfit hpmax h
  rw [hn]
  refine ⟨fun k hk hkn => ?_, u, ?_⟩
  · obtain ⟨x, hx, w, hw⟩ := hrun.prop_at hk (by omega)
    exact ⟨x, w, hx, hw⟩
  · have hframe := hu.deliveredFrame ht hv hlt
    have hread := fun a draw => hu.memRead (a := a) hlt draw
    obtain ⟨c, p, w, hu⟩ := hu
    refine ⟨w, hrun.run_step hstep, ?_, hframe, hread, ?_⟩
    · rw [hu, completionAction_eq ht]
    · rw [hu]
      exact ⟨rfl, rfl, rfl, rfl⟩

end Sys2Proof.Machine
end

section
/-! PROOF. O54: idle cycles change nothing. A byte's step neither reads nor writes the cycles to come (`withPending`), and
no step reads the pins or the outputs of the cycle before. -/

namespace Sys2Proof.Machine

/-- The same machine with other cycles to come. -/
def State.withPending (s : State) (ps : List Pins) : State := { s with pending := ps }

variable {s t u : State} {ps rest : List Pins}

theorem headerComplete_withPending (plen : Word64) (s : State) (ps : List Pins) :
    headerComplete plen (s.withPending ps) = (headerComplete plen s).withPending ps := by
  unfold headerComplete
  split <;> rfl

theorem lengthKnown_withPending (fin : Bool) (op : BitVec 4) (plen : Word64) (m : Bool) (s : State) (ps : List Pins) :
    lengthKnown fin op plen m (s.withPending ps) = (lengthKnown fin op plen m s).withPending ps := by
  unfold lengthKnown
  rw [headerComplete_withPending]
  split_ifs <;> rfl

theorem stepB0_withPending (h : ByteZero) (s : State) (ps : List Pins) :
    stepB0 h (s.withPending ps) = (stepB0 h s).withPending ps := by
  unfold stepB0
  dsimp only
  split_ifs <;> rfl

theorem stepB1_withPending (b : Byte) (s : State) (ps : List Pins) :
    stepB1 b (s.withPending ps) = (stepB1 b s).withPending ps := by
  rcases stepB1_cases b s with ⟨hm, e⟩ | ⟨hm, hl, e⟩ | ⟨hm, hl, e⟩ <;> rw [e]
  · exact if_pos hm
  · rw [← lengthKnown_withPending]
    exact (if_neg (not_not.mpr hm)).trans (if_pos hl)
  · exact (if_neg (not_not.mpr hm)).trans (if_neg hl)

theorem stepExt_withPending (b : Byte) (s : State) (ps : List Pins) :
    stepExt b (s.withPending ps) = (stepExt b s).withPending ps := by
  rcases stepExt_cases b s with ⟨hc, e⟩ | ⟨hc, e⟩ <;> rw [e]
  · rw [← lengthKnown_withPending]
    exact if_pos hc
  · exact if_neg hc

theorem stepKey_withPending (b : Byte) (s : State) (ps : List Pins) :
    stepKey b (s.withPending ps) = (stepKey b s).withPending ps := by
  rcases stepKey_cases b s with ⟨hc, e⟩ | ⟨hc, e⟩ <;> rw [e]
  · rw [← headerComplete_withPending]
    exact if_pos hc
  · exact if_neg hc

theorem storePayload_withPending (b : Byte) (s : State) (ps : List Pins) :
    storePayload b (s.withPending ps) = (storePayload b s).withPending ps := by
  rcases storePayload_cases b s with ⟨hc, e⟩ | ⟨hc, e⟩ <;> rw [e]
  · rcases storePayload_cases b (s.withPending ps) with ⟨_, e'⟩ | ⟨hne, _⟩
    · exact e'
    · exact absurd hc hne
  · rcases storePayload_cases b (s.withPending ps) with ⟨heq, _⟩ | ⟨_, e'⟩
    · exact absurd heq hc
    · exact e'

/-- A byte's step does not read the cycles to come, and hands them on (R12, R120). -/
theorem exec_withPending {i : Instr} (h : exec i s = .next t) (ps : List Pins) :
    exec i (s.withPending ps) = .next (t.withPending ps) := by
  rw [exec_eq]
  rcases exec_cases h with ⟨hp, rfl⟩ | ⟨hp, rfl⟩ | ⟨hp, rfl⟩ | ⟨hp, rfl⟩ | ⟨hp, hm, rfl⟩ | ⟨hp, rfl⟩
  · rw [frameByte_b0 _ (by exact hp), ← stepB0_withPending]
    rfl
  · rw [frameByte_b1 _ (by exact hp), ← stepB1_withPending]
    rfl
  · rw [frameByte_ext _ (by exact hp), ← stepExt_withPending]
    rfl
  · rw [frameByte_key _ (by exact hp), ← stepKey_withPending]
    rfl
  · have hm' : exceedsPmax (s.withPending ps).beginStep = false := hm
    rw [frameByte_pay _ (by exact hp), stepPay, hm', ← storePayload_withPending]
    rfl
  · rw [frameByte_err _ (by exact hp)]
    rfl

theorem clockCycle_byte (hr : s.pins.rst = false) (hv : s.pins.inValid = true) :
    clockCycle s = exec (instrInFlight s) s := by
  simp [clockCycle, hr, hv]

theorem clockCycle_idle (hr : s.pins.rst = false) (hv : s.pins.inValid = false) :
    clockCycle s = .next (idleCycle s) := by
  simp [clockCycle, hr, hv]

/-- No clock cycle reads the cycles to come, and every one hands them on. -/
theorem clockCycle_withPending (h : clockCycle s = .next t) (ps : List Pins) :
    clockCycle (s.withPending ps) = .next (t.withPending ps) := by
  rcases clockCycle_cases h with ⟨hr, rfl⟩ | ⟨hr, hv, he⟩ | ⟨hr, hv, rfl⟩
  · exact if_pos hr
  · exact (clockCycle_byte (by exact hr) (by exact hv)).trans (exec_withPending he ps)
  · exact clockCycle_idle (by exact hr) (by exact hv)

theorem step_of_pending {p : Pins} (hs : s.pending = p :: rest) : step s = clockCycle (s.latch p rest) := by
  rw [step, hs]

/-- A step takes the next cycle, does not read those after it, and hands them on (R12). -/
theorem step_withPending {p : Pins} (hs : s.pending = p :: rest) (h : step s = .next t) (ps : List Pins) :
    step (s.withPending (p :: ps)) = .next (t.withPending ps) :=
  clockCycle_withPending ((step_of_pending hs).symm.trans h) ps

theorem step_pending {p : Pins} (hs : s.pending = p :: rest) (h : step s = .next t) : t.pending = rest := by
  have h' := step_withPending hs h rest
  have hself : s.withPending (p :: rest) = s := by rw [← hs]; rfl
  rw [hself, h] at h'
  injection h' with h'
  exact congrArg State.pending h'

/-- Where there is a next cycle, a step does not read the pins and the outputs of the cycle before. -/
theorem step_pins_out {p : Pins} (hs : s.pending = p :: rest) (q : Pins) (out : Outputs) :
    step { s with pins := q, out := out } = step s := by
  rw [step_of_pending hs, step_of_pending (by exact hs)]
  unfold clockCycle
  rw [exec_eq, exec_eq]
  rfl

theorem run_succ_eq_next {n : Nat} (h : Host.Core.run Sys2Proof.core (n + 1) s = .next t) :
    ∃ s', step s = .next s' ∧ Host.Core.run Sys2Proof.core n s' = .next t := by
  simp only [Host.Core.run] at h
  split at h
  · exact ⟨_, ‹_›, h⟩
  · cases h
  · cases h

/-- So a run that has a cycle for its first step differs by them in no register and no PMEM cell. -/
theorem run_pins_out {n : Nat} {q : Pins} {out : Outputs} (hn : n ≤ s.pending.length)
    (h : Host.Core.run Sys2Proof.core n { s with pins := q, out := out } = .next t) :
    ∃ u, Host.Core.run Sys2Proof.core n s = .next u ∧ t = { u with pins := t.pins, out := t.out } := by
  cases n with
  | zero =>
    refine ⟨s, rfl, ?_⟩
    injection h with h
    rw [← h]
  | succ n =>
    obtain ⟨p, rest, hs⟩ := List.exists_cons_of_length_pos (Nat.zero_lt_of_lt hn)
    obtain ⟨s', hstep, hrun⟩ := run_succ_eq_next h
    rw [step_pins_out hs] at hstep
    exact ⟨t, (run_succ n hstep).trans hrun, rfl⟩

/-- Settles O54, by induction on the cycles: a byte's step is the same in both runs, and an idle cycle only sets the pins
and the outputs, which the steps after it do not read. -/
theorem idleGapsDoNotMatter : Obligations.IdleGapsDoNotMatter := by
  intro s t ps rest hrst hs h
  induction ps generalizing s with
  | nil =>
    refine ⟨s.withPending rest, rfl, ?_⟩
    injection h with h
    rw [← h, ← show s.pending = rest from hs]
    rfl
  | cons p ps ih =>
    obtain ⟨hr, hrst'⟩ := List.forall_mem_cons.mp hrst
    obtain ⟨s', hstep, hrun⟩ := run_succ_eq_next h
    obtain ⟨u, hu, ht⟩ := ih s' hrst' (step_pending hs hstep) hrun
    cases hv : p.inValid with
    | true =>
      rw [List.filter_cons_of_pos hv]
      exact ⟨u, (run_succ _ (step_withPending hs hstep _)).trans hu, ht⟩
    | false =>
      rw [List.filter_cons_of_neg (by simp [hv])]
      rw [step_of_pending hs, clockCycle_idle hr hv] at hstep
      injection hstep with hs'
      rw [← hs'] at hu
      obtain ⟨u', hu', hut⟩ := run_pins_out (s := s.withPending (ps.filter (fun p => p.inValid) ++ rest))
        (by simp [State.withPending]) hu
      refine ⟨u', hu', ?_⟩
      rw [ht, hut]

end Sys2Proof.Machine
end

section
/-! PROOF. O39 and O40: the invariant of R46, read phase by phase; reset meets it and every step keeps it. -/

namespace Sys2Proof.Machine

variable {s t : State}

/-! ## The invariant phase by phase -/

/-- What holds in every phase: a 16-bit length is below 2^16, every cell of the validity window is written, and PMEM has
its canonical form. -/
def Grounded (s : State) : Prop :=
  (s.len7 = 126#7 → s.payloadLength ≤ 65535#64) ∧
    (∀ j, j < s.window.toNat → (Memory.read s.pmem j).isSome) ∧ Memory.wf s.pmem = true

/-- Between frames: no error, and the frame shown has its payload in PMEM, with the window open on it (R46 a, R70, R72). -/
def BetweenFrames (s : State) : Prop :=
  s.errReason = .none ∧ (∀ j, j < s.payloadLength.toNat → (Memory.read s.pmem j).isSome) ∧
    (s.payloadLength ≠ 0#64 → s.window = s.payloadLength)

/-- Inside a frame: no error, and byte 0 violated nothing (R46 a, b). -/
def InFrame (s : State) : Prop :=
  s.errReason = .none ∧ registryValid s.opcode = true ∧ s.rsv1 = false ∧ s.rsv2 = false ∧ s.rsv3 = false

/-- The length is known: MASKED is the policy's, and a literal length is LEN7's (R46 c, h). -/
def LengthTaken (s : State) : Prop :=
  s.masked = s.maskReq ∧ (s.len7 ≤ 125#7 → s.payloadLength = literalLength s.len7)

/-- The control-frame check is passed (R46 g). -/
def ControlChecked (s : State) : Prop :=
  isControlOp s.opcode = true → s.fin = true ∧ s.payloadLength ≤ 125#64

/-- Nothing of an operand byte is recorded yet. -/
def AwaitsByteOne (s : State) : Prop :=
  s.masked = false ∧ s.len7 = 0#7 ∧ s.payloadLength = 0#64 ∧ s.maskKey = zeroKey

/-- CNT bytes of an extended length are in PAYLOAD_LENGTH (R46 c, d). -/
def AwaitsLengthByte (s : State) : Prop :=
  s.masked = s.maskReq ∧ (s.len7 = 126#7 ∧ s.cnt < 2#4 ∨ s.len7 = 127#7 ∧ s.cnt < 8#4) ∧
    s.payloadLength.toNat < 2 ^ (8 * s.cnt.toNat) ∧ s.maskKey = zeroKey

/-- CNT bytes of the mask key are recorded, the others are 0 (R46 e). -/
def AwaitsKeyByte (s : State) : Prop :=
  s.masked = true ∧ s.cnt < 4#4 ∧ ∀ k, k < 4 → s.cnt.toNat ≤ k → keyByte s.maskKey k = 0x00#8

/-- PAY_CNT payload bytes are in PMEM, at least one is to come, and after the first no window is open (R46 f, R70, R72). -/
def AwaitsPayloadByte (s : State) : Prop :=
  (1#64 ≤ s.payloadLength ∧ s.payCnt < s.payloadLength ∧ (s.masked = false → s.maskKey = zeroKey)) ∧
    (∀ j, j < s.payCnt.toNat → (Memory.read s.pmem j).isSome) ∧ (s.payCnt ≠ 0#64 → s.window = 0#64)

/-- The part of the invariant that speaks of the phase `ph`. -/
def PhaseInv (s : State) : Phase → Prop
  | .b0 => BetweenFrames s
  | .b1 => InFrame s ∧ AwaitsByteOne s
  | .ext => InFrame s ∧ AwaitsLengthByte s
  | .key => InFrame s ∧ LengthTaken s ∧ ControlChecked s ∧ AwaitsKeyByte s
  | .pay => InFrame s ∧ LengthTaken s ∧ ControlChecked s ∧ AwaitsPayloadByte s
  | .err => s.errReason ≠ .none

theorem Inv.grounded (h : Inv s) : Grounded s := ⟨h.length.2, h.window.1, h.memory⟩

theorem inv_iff_parts : Inv s ↔ InvError s ∧ InvStart s ∧ InvMask s ∧ InvExt s ∧ InvKey s ∧ InvPay s ∧ InvControl s ∧
    InvLength s ∧ InvCleared s ∧ InvStored s ∧ InvWindow s ∧ Memory.wf s.pmem = true :=
  ⟨fun ⟨a, b, c, d, e, f, g, h, i, j, k, l⟩ => ⟨a, b, c, d, e, f, g, h, i, j, k, l⟩,
    fun ⟨a, b, c, d, e, f, g, h, i, j, k, l⟩ => ⟨a, b, c, d, e, f, g, h, i, j, k, l⟩⟩

/-- R46 phase by phase: in each phase the parts that speak of other phases say nothing. -/
theorem inv_iff_phase {ph : Phase} (hp : s.phase = ph) : Inv s ↔ Grounded s ∧ PhaseInv s ph := by
  rw [inv_iff_parts]
  cases ph <;>
    simp only [InvError, InvStart, InvMask, InvExt, InvKey, InvPay, InvControl, InvLength, InvCleared, InvStored,
      InvWindow, Grounded, PhaseInv, BetweenFrames, InFrame, LengthTaken, ControlChecked, AwaitsByteOne,
      AwaitsLengthByte, AwaitsKeyByte, AwaitsPayloadByte, hp, reduceCtorEq, or_false, or_self, or_true,
      false_imp_iff, true_imp_iff, true_and, and_true, true_iff, false_iff, false_and, and_false, ne_eq, not_not] <;>
    tauto

/-- The pins, the input and the outputs take no part in the invariant. -/
theorem Inv.with_ports (h : Inv s) (p : Pins) (ps : List Pins) (o : Outputs) :
    Inv { s with pins := p, pending := ps, out := o } :=
  ⟨h.error, h.start, h.mask, h.ext, h.key, h.pay, h.control, h.length, h.cleared, h.stored, h.window, h.memory⟩

/-! ## The procedures and the byte steps -/

theorem raiseProtocolError_inv {r : ErrReason} (hr : r ≠ .none) (hg : Grounded s) : Inv (raiseProtocolError r s) :=
  (inv_iff_phase rfl).mpr ⟨hg, hr⟩

theorem one_le_of_ne_zero {w : Word64} (h : w ≠ 0#64) : 1#64 ≤ w := by bv_omega

theorem headerComplete_inv (hg : Grounded s) (hf : InFrame s) (hl : LengthTaken s) (hc : ControlChecked s)
    (hk : s.masked = false → s.maskKey = zeroKey) : Inv (headerComplete s.payloadLength s) := by
  rcases headerComplete_cases s.payloadLength s with ⟨h0, e⟩ | ⟨hne, e⟩ <;> rw [e]
  · exact (inv_iff_phase rfl).mpr ⟨hg, hf.1, by simp [frameComplete_eq, h0], fun hne => absurd h0 hne⟩
  · have hpos := one_le_of_ne_zero hne
    exact (inv_iff_phase rfl).mpr ⟨hg, hf, hl, hc, ⟨hpos, hpos, hk⟩, by simp, fun h0 => absurd rfl h0⟩

theorem lengthKnown_inv (hg : Grounded s) (hf : InFrame s) (hl : LengthTaken s) (hk : s.maskKey = zeroKey) :
    Inv (lengthKnown s.fin s.opcode s.payloadLength s.masked s) := by
  rcases lengthKnown_cases s.fin s.opcode s.payloadLength s.masked s with
    ⟨_, _, e⟩ | ⟨_, _, _, e⟩ | ⟨hc, hm, e⟩ | ⟨hc, _, e⟩ <;> rw [e]
  · exact raiseProtocolError_inv (by decide) hg
  · exact raiseProtocolError_inv (by decide) hg
  · have hzero : ∀ k, k < 4 → 0 ≤ k → keyByte s.maskKey k = 0x00#8 := by rw [hk]; decide
    exact (inv_iff_phase rfl).mpr ⟨hg, hf, hl, hc, hm, by simp, hzero⟩
  · exact headerComplete_inv hg hf hl hc fun _ => hk

theorem stepB0_inv (h : ByteZero) (hi : Inv s) (hp : s.phase = .b0) : Inv (stepB0 h s) := by
  obtain ⟨⟨-, hw, hm⟩, he, -, -⟩ := (inv_iff_phase hp).mp hi
  have hg : Grounded (newFrame h s) := ⟨fun h => absurd h (by simp), hw, hm⟩
  rcases stepB0_cases h s with ⟨_, e⟩ | ⟨_, _, e⟩ | ⟨hop, h1, h2, h3, e⟩ <;> rw [e]
  · exact raiseProtocolError_inv (by decide) hg
  · exact raiseProtocolError_inv (by decide) hg
  · exact (inv_iff_phase rfl).mpr ⟨hg, ⟨he, hop, h1, h2, h3⟩, rfl, rfl, rfl, rfl⟩

theorem indicator_eq_of_not_le {l : BitVec 7} (h : ¬l ≤ 125#7) : l = 126#7 ∨ l = 127#7 := by
  revert l; decide

theorem stepB1_inv (b : Byte) (hi : Inv s) (hp : s.phase = .b1) : Inv (stepB1 b s) := by
  obtain ⟨⟨-, hw, hm⟩, hf, -, -, hlen, hkey⟩ := (inv_iff_phase hp).mp hi
  have hshort : lengthIndicator b = 126#7 → s.payloadLength ≤ 65535#64 := fun _ => by rw [hlen]; decide
  rcases stepB1_cases b s with ⟨_, e⟩ | ⟨hmask, hl, e⟩ | ⟨hmask, hl, e⟩ <;> rw [e]
  · exact raiseProtocolError_inv (by decide) ⟨hshort, hw, hm⟩
  · have hne : lengthIndicator b ≠ 126#7 := fun h => absurd (h ▸ hl) (by decide)
    exact lengthKnown_inv (s := { s with
        masked := maskBit b, len7 := lengthIndicator b, payloadLength := literalLength (lengthIndicator b) })
      ⟨fun h => absurd h hne, hw, hm⟩ hf ⟨hmask, fun _ => rfl⟩ hkey
  · refine (inv_iff_phase rfl).mpr ⟨⟨hshort, hw, hm⟩, hf, hmask, ?_, by simp [hlen], hkey⟩
    rcases indicator_eq_of_not_le hl with h | h <;> simp [h]

/-- One more length byte is one more big-endian digit, while the length has room for it (R124, R143 c). -/
theorem appendLengthByte_toNat {v : Word64} (b : Byte) (hv : v.toNat < 2 ^ 56) :
    (appendLengthByte v b).toNat = v.toNat * 2 ^ 8 + b.toNat := by
  have hb : (b.setWidth 64).toNat = b.toNat := by
    rw [BitVec.toNat_setWidth]
    exact Nat.mod_eq_of_lt (b.isLt.trans (by decide))
  have hs : (v <<< 8).toNat = v.toNat <<< 8 := by
    rw [BitVec.toNat_shiftLeft, Nat.mod_eq_of_lt]
    rw [Nat.shiftLeft_eq]
    omega
  rw [appendLengthByte, BitVec.toNat_or, hb, hs, ← Nat.shiftLeft_add_eq_or_of_lt b.isLt, Nat.shiftLeft_eq]

/-- `n + 1` length bytes make a length below 256 ^ (n + 1). -/
theorem appendLengthByte_lt {v : Word64} {n : Nat} (b : Byte) (hn : n < 8) (hv : v.toNat < 2 ^ (8 * n)) :
    (appendLengthByte v b).toNat < 2 ^ (8 * (n + 1)) := by
  have h56 : 2 ^ (8 * n) ≤ 2 ^ 56 := Nat.pow_le_pow_right (by decide) (by omega)
  rw [appendLengthByte_toNat b (hv.trans_le h56), Nat.mul_succ, Nat.pow_add]
  have := b.isLt
  omega

theorem stepExt_inv (b : Byte) (hi : Inv s) (hp : s.phase = .ext) : Inv (stepExt b s) := by
  obtain ⟨⟨-, hw, hm⟩, hf, hmask, hform, hlen, hkey⟩ := (inv_iff_phase hp).mp hi
  have hcnt : s.cnt.toNat < 8 := by rcases hform with ⟨_, h⟩ | ⟨_, h⟩ <;> bv_omega
  have hlen' : (appendLengthByte s.payloadLength b).toNat < 2 ^ (8 * (s.cnt + 1#4).toNat) := by
    rw [cnt_succ_toNat hcnt]
    exact appendLengthByte_lt b hcnt hlen
  have hnotLiteral : ¬s.len7 ≤ 125#7 := by rcases hform with ⟨h, _⟩ | ⟨h, _⟩ <;> rw [h] <;> decide
  have h16 : s.len7 = 126#7 → appendLengthByte s.payloadLength b ≤ 65535#64 := fun h => by
    have hc : s.cnt < 2#4 := by simpa [h] using hform
    have h2 : (s.cnt + 1#4).toNat ≤ 2 := by bv_omega
    have hpow : 2 ^ (8 * (s.cnt + 1#4).toNat) ≤ 2 ^ 16 := Nat.pow_le_pow_right (by decide) (by omega)
    exact BitVec.le_def.mpr (Nat.le_of_lt_succ (hlen'.trans_le hpow))
  rcases stepExt_cases b s with ⟨_, e⟩ | ⟨hne, e⟩ <;> rw [e]
  · exact lengthKnown_inv (s := { s with
        payloadLength := appendLengthByte s.payloadLength b, cnt := s.cnt + 1#4 })
      ⟨h16, hw, hm⟩ hf ⟨hmask, fun h => absurd h hnotLiteral⟩ hkey
  · refine (inv_iff_phase (ph := .ext) (by exact hp)).mpr ⟨⟨h16, hw, hm⟩, hf, hmask, ?_, hlen', hkey⟩
    rcases hform with ⟨h, hc⟩ | ⟨h, hc⟩
    · have hne' : s.cnt + 1#4 ≠ 2#4 := by simpa [h, extNeed] using hne
      exact .inl ⟨h, by bv_omega⟩
    · have hne' : s.cnt + 1#4 ≠ 8#4 := by simpa [h, extNeed] using hne
      exact .inr ⟨h, by bv_omega⟩

theorem keyByte_setKeyByte_other (key : MaskKey) {n k : Nat} (b : Byte) (hk : k < 4) (hn : n ≠ k) :
    keyByte (setKeyByte key n b) k = keyByte key k := by
  unfold setKeyByte
  split <;> interval_cases k <;> simp_all [keyByte]

theorem stepKey_inv (b : Byte) (hi : Inv s) (hp : s.phase = .key) : Inv (stepKey b s) := by
  obtain ⟨hg, hf, hl, hc, hm, hcnt, hkey⟩ := (inv_iff_phase hp).mp hi
  rcases stepKey_cases b s with ⟨_, e⟩ | ⟨hne, e⟩ <;> rw [e]
  · exact headerComplete_inv (s := { s with maskKey := setKeyByte s.maskKey s.cnt.toNat b, cnt := s.cnt + 1#4 })
      hg hf hl hc fun hm' => absurd (hm.symm.trans hm') (by decide)
  · have hsucc : (s.cnt + 1#4).toNat = s.cnt.toNat + 1 := cnt_succ_toNat (by bv_omega)
    refine (inv_iff_phase (ph := .key) (by exact hp)).mpr ⟨hg, hf, hl, hc, hm, by bv_omega, fun k hk hle => ?_⟩
    have hlt : s.cnt.toNat < k := Nat.lt_of_succ_le (hsucc.symm.trans_le hle)
    exact (keyByte_setKeyByte_other _ b hk hlt.ne).trans (hkey k hk hlt.le)

/-- Writing the next cell lengthens a written range by one. -/
theorem Memory.isSome_read_write_succ {m : Memory} {n : Nat} (v : Byte) (h : ∀ j, j < n → (Memory.read m j).isSome) :
    ∀ j, j < n + 1 → (Memory.read (Memory.write m n v) j).isSome := by
  intro j hj
  rcases Nat.lt_succ_iff_lt_or_eq.mp hj with hlt | rfl
  · rw [Memory.read_write_other m v hlt.ne]
    exact h j hlt
  · rw [Memory.read_write_same]
    rfl

theorem storePayload_inv (b : Byte) (hi : Inv s) (hp : s.phase = .pay) : Inv (storePayload b s) := by
  obtain ⟨⟨h16, -, hwf⟩, hf, hl, hc, ⟨hpos, hlt, hk⟩, hst, -⟩ := (inv_iff_phase hp).mp hi
  have hsucc : (s.payCnt + 1#64).toNat = s.payCnt.toNat + 1 := by bv_omega
  have hwf' := Memory.wf_write s.pmem s.payCnt (unmask b s.payCnt.toNat s.maskKey) hwf
  have hst' := Memory.isSome_read_write_succ (unmask b s.payCnt.toNat s.maskKey) hst
  rw [← hsucc] at hst'
  rcases storePayload_cases b s with ⟨hlast, e⟩ | ⟨hmore, e⟩ <;> rw [e]
  · rw [hlast] at hst'
    exact (inv_iff_phase rfl).mpr ⟨⟨h16, hst', hwf'⟩, hf.1, hst', fun _ => rfl⟩
  · have hlt' : s.payCnt + 1#64 < s.payloadLength := by bv_omega
    exact (inv_iff_phase (ph := .pay) (by exact hp)).mpr
      ⟨⟨h16, by simp, hwf'⟩, hf, hl, hc, ⟨hpos, hlt', hk⟩, hst', fun _ => rfl⟩

theorem exec_inv {i : Instr} (hi : Inv s) (h : exec i s = .next t) : Inv t := by
  have hb : Inv s.beginStep := hi.with_ports _ _ _
  rcases exec_cases h with ⟨hp, rfl⟩ | ⟨hp, rfl⟩ | ⟨hp, rfl⟩ | ⟨hp, rfl⟩ | ⟨hp, _, rfl⟩ | ⟨_, rfl⟩
  · exact stepB0_inv _ hb hp
  · exact stepB1_inv _ hb hp
  · exact stepExt_inv _ hb hp
  · exact stepKey_inv _ hb hp
  · exact storePayload_inv _ hb hp
  · exact hi.with_ports _ _ _

/-- A reset shows an empty frame, which owes PMEM nothing, and keeps PMEM with its window (R44). -/
theorem resetCycle_inv (hi : Inv s) : Inv (resetCycle s) := by
  obtain ⟨-, hw, hm⟩ := hi.grounded
  exact (inv_iff_phase rfl).mpr ⟨⟨fun h => absurd h (by simp), hw, hm⟩, rfl, by simp, fun h => absurd rfl h⟩

/-- What a step can do: a reset, a byte or nothing, with the pins and the cycles to come that it latches. -/
theorem step_cases (h : step s = .next t) : ∃ (p : Pins) (ps : List Pins),
    (p.rst = true ∧ t = resetCycle { s with pins := p, pending := ps }) ∨
      (p.rst = false ∧ p.inValid = true ∧
        exec (instrInFlight { s with pins := p, pending := ps }) { s with pins := p, pending := ps } = .next t) ∨
      (p.rst = false ∧ p.inValid = false ∧ t = { s with pins := p, pending := ps, out := .idle }) := by
  rw [step_eq, nextCycle_fields] at h
  have hc := clockCycle_cases h
  exact ⟨_, _, hc⟩

/-- Settles O39: the state after reset is that of a reset cycle, an empty frame shown with PMEM never written. -/
theorem resetMeetsInvariant : Obligations.ResetMeetsInvariant :=
  (inv_iff_phase rfl).mpr ⟨⟨by decide, by simp [State.reset], Memory.wf_reset⟩, rfl, by simp [State.reset],
    fun h => absurd rfl h⟩

/-- Settles O40: a step is a reset, a byte or idle, and a byte's step is one case per phase. -/
theorem stepKeepsInvariant : Obligations.StepKeepsInvariant := by
  intro s t hi h
  obtain ⟨p, ps, ⟨_, rfl⟩ | ⟨_, _, he⟩ | ⟨_, _, rfl⟩⟩ := step_cases h
  · exact resetCycle_inv (hi.with_ports p ps s.out)
  · exact exec_inv (hi.with_ports p ps s.out) he
  · exact hi.with_ports p ps .idle

end Sys2Proof.Machine
end

section
/-! PROOF. O53: inside an accepted frame's payload, PMEM holds the part received. -/

namespace Sys2Proof.Machine

variable {i : Instr} {o : Operands} {s : State} {rest : List Pins} {k : Nat}

/-- From PH_B0, the header and `k` payload bytes of a frame that violates nothing, has more than `k`, and that PMAX holds
(R46 i, R140). -/
theorem run_partialPayload (hp : s.phase = .b0) (hv : startViolation i = none)
    (ho : operandViolation s.maskReq i o = none) (hfit : o.payload.length ≤ o.form.maxLength)
    (hpmax : ∀ n, s.pmax = some n → o.payload.length ≤ n)
    (h : s.pending = byteCycles (encodeFrame ⟨i, some o⟩) ++ rest) (hk : k < o.payload.length) :
    ∃ u : State, RunThrough Incomplete (k + (o.form.extBytes + (keyBytes o.key).length + 2)) s u ∧ u.phase = .pay ∧
      u.payCnt = BitVec.ofNat 64 k ∧ u.pmem = Memory.writeFrom s.pmem 0 (o.payload.take k) := by
  obtain ⟨c, p, hhead⟩ := run_frameHeader hp hv ho hfit (List.ne_nil_of_length_pos (by omega)) h
  have hplen := ofNat64_toNat (hfit.trans_lt (maxLength_lt o.form))
  have htake : (o.payload.take k).length = k := List.length_take_of_le hk.le
  have hsplit := xorPayload_append (o.key.getD zeroKey) 0 (o.payload.take k) (o.payload.drop k)
  rw [List.take_append_drop, htake, Nat.zero_add] at hsplit
  obtain ⟨win, p', out, hpay⟩ := run_payloadBytes (bs := o.payload.take k)
    (rest := byteCycles (xorPayload (o.key.getD zeroKey) k (o.payload.drop k)) ++ rest)
    (s := headerTaken i o (o.key.getD zeroKey) s
      (byteCycles (xorPayload (o.key.getD zeroKey) 0 o.payload) ++ rest) .pay c p)
    rfl (exceedsPmax_eq_false fun n hn => hplen.trans_le (hpmax n hn))
    (by simpa [headerTaken, hplen, htake] using hk) (by simp [headerTaken, hsplit])
  have run := (hhead.mono fun _ => HeaderByteTaken.incomplete).trans hpay
  rw [htake] at run
  exact ⟨_, run, rfl, by simp [headerTaken], rfl⟩

/-- Settles O53: the header leads to PH_PAY with PAY_CNT = 0, and the payload bytes from there on are written cell by
cell. -/
theorem partialPayloadIsStoredInOrder : Obligations.PartialPayloadIsStoredInOrder := by
  intro f o t s rest k hwf ho _ hviol hpmax hp h hk
  obtain ⟨i, ops⟩ := f
  obtain rfl : ops = some o := ho
  obtain ⟨-, hfit⟩ := wf_frame.mp hwf
  obtain ⟨hv, hov⟩ := firstViolation_eq_none.mp hviol
  obtain ⟨u, hrun, hpay, hcnt, hmem⟩ := run_partialPayload hp hv hov hfit hpmax h hk
  have hk64 : k < 2 ^ 64 := hk.trans (hfit.trans_lt (maxLength_lt o.form))
  have htake : (o.payload.take k).length = k := List.length_take_of_le hk.le
  have hn : (encodeFrame ⟨i, some o⟩).length - o.payload.length + k =
      k + (o.form.extBytes + (keyBytes o.key).length + 2) := by
    rw [encodeFrame_length]
    omega
  refine ⟨u, hn ▸ hrun.run_eq, hpay, by rw [hcnt, ofNat64_toNat hk64], fun j hj => ?_, fun a ha => ?_⟩
  · have hread := Memory.read_writeFrom s.pmem 0 (hj.trans_eq htake.symm)
    rwa [Nat.zero_add, List.getElem?_take_of_lt hj, ← hmem] at hread
  · rw [hmem, Memory.read_writeFrom_other _ _ (.inr (by omega))]

end Sys2Proof.Machine
end

section
/-! PROOF. O31, O32 and O36: what a byte can do to PHASE, ERR_REASON and the outputs, said once as `ByteOutcome`. -/

namespace Sys2Proof.Machine

variable {s t : State} {i : Instr}

/-- In PH_ERR a byte only repeats the error (R128). -/
theorem exec_err (i : Instr) (hp : s.phase = .err) :
    exec i s = .next { s with out := .consumed .protocolError s.errReason .none none } := by
  rw [exec_eq, frameByte_err _ hp]
  rfl

/-- Settles O31: a byte in PH_ERR only sets the outputs, and so does an idle cycle. -/
theorem onlyResetLeavesError : Obligations.OnlyResetLeavesError := by
  intro s t hp h
  obtain ⟨p, ps, ⟨hr, rfl⟩ | ⟨hr, -, he⟩ | ⟨hr, -, rfl⟩⟩ := step_cases h
  · exact ⟨fun hf => absurd hf (by simp [hr]), fun _ => ⟨rfl, rfl⟩⟩
  · rw [exec_err _ (by exact hp)] at he
    injection he with he
    subst he
    exact ⟨fun _ => rfl, fun ht => absurd ht (by simp [hr])⟩
  · exact ⟨fun _ => rfl, fun ht => absurd ht (by simp [hr])⟩

/-- The three outcomes of a byte outside PH_ERR, by PHASE, ERR_REASON and the outputs, `w` the write port: an error, which
writes nothing; Incomplete; a completed frame (R36 to R38, R41, R190). -/
def ByteOutcome (s : State) (w : Option PayloadWrite) (t : State) : Prop :=
  (t.phase = .err ∧ t.errReason ≠ .none ∧ t.out = .consumed .protocolError t.errReason .none w ∧ w = none ∧
      t.pmem = s.pmem) ∨
    (t.phase ≠ .err ∧ t.errReason = s.errReason ∧ t.out = .consumed .incomplete .none .none w) ∨
    (t.phase = .b0 ∧ t.errReason = s.errReason ∧ ∃ a, t.out = .consumed .frameComplete .none a w)

theorem raiseProtocolError_outcome {r : ErrReason} (hr : r ≠ .none) (ho : HeaderByteTaken s) :
    ByteOutcome s none (raiseProtocolError r s) :=
  .inl ⟨rfl, hr, congrArg (Outputs.withSignal · _ _ _) ho, rfl, rfl⟩

theorem headerComplete_outcome (plen : Word64) (ho : HeaderByteTaken s) :
    ByteOutcome s none (headerComplete plen s) := by
  rcases headerComplete_cases plen s with ⟨_, e⟩ | ⟨_, e⟩ <;> rw [e]
  · exact .inr (.inr ⟨rfl, rfl, _, congrArg (Outputs.withSignal · _ _ _) ho⟩)
  · exact .inr (.inl ⟨by simp, rfl, congrArg (Outputs.withSignal · _ _ _) ho⟩)

theorem lengthKnown_outcome (fin : Bool) (op : BitVec 4) (plen : Word64) (m : Bool) (ho : HeaderByteTaken s) :
    ByteOutcome s none (lengthKnown fin op plen m s) := by
  rcases lengthKnown_cases fin op plen m s with ⟨_, _, e⟩ | ⟨_, _, _, e⟩ | ⟨_, _, e⟩ | ⟨_, _, e⟩ <;> rw [e]
  · exact raiseProtocolError_outcome (by decide) ho
  · exact raiseProtocolError_outcome (by decide) ho
  · exact .inr (.inl ⟨by simp, rfl, congrArg (Outputs.withSignal · _ _ _) ho⟩)
  · exact headerComplete_outcome plen ho

theorem stepB0_outcome (h : ByteZero) (ho : HeaderByteTaken s) : ByteOutcome s none (stepB0 h s) := by
  have ho' : HeaderByteTaken (newFrame h s) := ho
  rcases stepB0_cases h s with ⟨_, e⟩ | ⟨_, _, e⟩ | ⟨_, _, _, _, e⟩ <;> rw [e]
  · exact raiseProtocolError_outcome (by decide) ho'
  · exact raiseProtocolError_outcome (by decide) ho'
  · exact .inr (.inl ⟨by simp, rfl, congrArg (Outputs.withSignal · _ _ _) ho⟩)

theorem stepB1_outcome (b : Byte) (ho : HeaderByteTaken s) : ByteOutcome s none (stepB1 b s) := by
  rcases stepB1_cases b s with ⟨_, e⟩ | ⟨_, _, e⟩ | ⟨_, _, e⟩ <;> rw [e]
  · exact raiseProtocolError_outcome (by decide) (by exact ho)
  · exact lengthKnown_outcome _ _ _ _ (by exact ho)
  · exact .inr (.inl ⟨by simp, rfl, congrArg (Outputs.withSignal · _ _ _) ho⟩)

theorem stepExt_outcome (b : Byte) (hp : s.phase ≠ .err) (ho : HeaderByteTaken s) :
    ByteOutcome s none (stepExt b s) := by
  rcases stepExt_cases b s with ⟨_, e⟩ | ⟨_, e⟩ <;> rw [e]
  · exact lengthKnown_outcome _ _ _ _ (by exact ho)
  · exact .inr (.inl ⟨hp, rfl, congrArg (Outputs.withSignal · _ _ _) ho⟩)

theorem stepKey_outcome (b : Byte) (hp : s.phase ≠ .err) (ho : HeaderByteTaken s) :
    ByteOutcome s none (stepKey b s) := by
  rcases stepKey_cases b s with ⟨_, e⟩ | ⟨_, e⟩ <;> rw [e]
  · exact headerComplete_outcome _ (by exact ho)
  · exact .inr (.inl ⟨hp, rfl, congrArg (Outputs.withSignal · _ _ _) ho⟩)

theorem storePayload_outcome (b : Byte) (hp : s.phase ≠ .err) :
    ∃ x, ByteOutcome s (some x) (storePayload b s) := by
  rcases storePayload_cases b s with ⟨_, e⟩ | ⟨_, e⟩ <;> rw [e]
  · exact ⟨_, .inr (.inr ⟨rfl, rfl, _, rfl⟩)⟩
  · exact ⟨_, .inr (.inl ⟨hp, rfl, rfl⟩)⟩

/-- A byte outside PH_ERR has one of the three outcomes, and writes exactly in a payload step (R62, R120). -/
theorem exec_outcome (hp : s.phase ≠ .err) (h : exec i s = .next t) :
    ∃ w : Option PayloadWrite, (w.isSome ↔ s.phase = .pay) ∧ ByteOutcome s w t := by
  have ho : HeaderByteTaken s.beginStep := rfl
  rcases exec_cases h with ⟨hph, rfl⟩ | ⟨hph, rfl⟩ | ⟨hph, rfl⟩ | ⟨hph, rfl⟩ | ⟨hph, _, rfl⟩ | ⟨hph, _⟩
  · exact ⟨none, by simp [hph], stepB0_outcome _ ho⟩
  · exact ⟨none, by simp [hph], stepB1_outcome _ ho⟩
  · exact ⟨none, by simp [hph], stepExt_outcome _ hp ho⟩
  · exact ⟨none, by simp [hph], stepKey_outcome _ hp ho⟩
  · obtain ⟨x, hx⟩ := storePayload_outcome (s := s.beginStep) s.pins.inByte hp
    exact ⟨some x, by simp [hph], hx⟩
  · exact absurd hph hp

/-- Settles O32: of a byte's three outcomes, only the error changes ERR_REASON. -/
theorem errorEntryIsPrecise : Obligations.ErrorEntryIsPrecise := by
  intro i s t hp h
  obtain ⟨w, -, ⟨hph, hr, ho, rfl, hm⟩ | ⟨hph, hr, ho⟩ | ⟨hph, hr, a, ho⟩⟩ := exec_outcome hp h
  · exact .inl ⟨hph, hr, ho, hm⟩
  · exact .inr ⟨hph, hr, _, _, _, ho, by decide⟩
  · exact .inr ⟨by simp [hph], hr, _, _, _, ho, by decide⟩

/-- Settles O36: outside PH_ERR by the three outcomes of a byte, and in PH_ERR the error is signalled again. -/
theorem stepOutputsAreConsistent : Obligations.StepOutputsAreConsistent := by
  intro i s t h
  by_cases hp : s.phase = .err
  · rw [exec_err i hp] at h
    injection h with h
    subst h
    exact ⟨_, _, _, _, rfl, by simp, by simp, by simp [hp], by simp [hp]⟩
  · obtain ⟨w, hw, ⟨hph, _, ho, _, _⟩ | ⟨hph, _, ho⟩ | ⟨hph, _, a, ho⟩⟩ := exec_outcome hp h
    · exact ⟨_, _, _, _, ho, by simp, by simp, by simp [hph], hw⟩
    · exact ⟨_, _, _, _, ho, by simp, by simp, by simp [hph], hw⟩
    · exact ⟨_, _, _, _, ho, by simp, by simp, by simp [hph], hw⟩

end Sys2Proof.Machine
end

section
/-! PROOF. O35: which registers a byte's step leaves as they are. -/

namespace Sys2Proof.Machine

variable {s t : State}

/-- The registers of byte 0 keep their values (R21 to R23). -/
def StartKept (s t : State) : Prop :=
  t.fin = s.fin ∧ t.rsv1 = s.rsv1 ∧ t.rsv2 = s.rsv2 ∧ t.rsv3 = s.rsv3 ∧ t.opcode = s.opcode

/-- Every frame field register keeps its value (R21 to R27). -/
def FrameKept (s t : State) : Prop :=
  StartKept s t ∧ t.masked = s.masked ∧ t.len7 = s.len7 ∧ t.payloadLength = s.payloadLength ∧ t.maskKey = s.maskKey

/-- An update of other fields keeps the registers of byte 0. -/
theorem StartKept.refl (s : State) : StartKept s s := ⟨rfl, rfl, rfl, rfl, rfl⟩

/-- An update of other fields keeps the frame field registers. -/
theorem FrameKept.refl (s : State) : FrameKept s s := ⟨.refl s, rfl, rfl, rfl, rfl⟩

theorem headerComplete_frame (plen : Word64) (s : State) :
    FrameKept s (headerComplete plen s) ∧ (headerComplete plen s).cnt = s.cnt ∧
      ((headerComplete plen s).phase ≠ .pay → (headerComplete plen s).payCnt = s.payCnt) ∧
      (headerComplete plen s).phase ≠ .ext := by
  rcases headerComplete_cases plen s with ⟨_, e⟩ | ⟨_, e⟩ <;> rw [e]
  · exact ⟨.refl s, rfl, fun _ => rfl, by simp [frameComplete_eq]⟩
  · exact ⟨.refl s, rfl, fun h => absurd rfl h, by simp⟩

theorem lengthKnown_frame (fin : Bool) (op : BitVec 4) (plen : Word64) (m : Bool) (s : State) :
    FrameKept s (lengthKnown fin op plen m s) ∧
      ((lengthKnown fin op plen m s).phase ≠ .key → (lengthKnown fin op plen m s).cnt = s.cnt) ∧
      ((lengthKnown fin op plen m s).phase ≠ .pay → (lengthKnown fin op plen m s).payCnt = s.payCnt) ∧
      (lengthKnown fin op plen m s).phase ≠ .ext := by
  rcases lengthKnown_cases fin op plen m s with ⟨_, _, e⟩ | ⟨_, _, _, e⟩ | ⟨_, _, e⟩ | ⟨_, _, e⟩ <;> rw [e]
  · exact ⟨.refl s, fun _ => rfl, fun _ => rfl, by simp⟩
  · exact ⟨.refl s, fun _ => rfl, fun _ => rfl, by simp⟩
  · exact ⟨.refl s, fun h => absurd rfl h, fun _ => rfl, by simp⟩
  · obtain ⟨hf, hc, hp, he⟩ := headerComplete_frame plen s
    exact ⟨hf, fun _ => hc, hp, he⟩

theorem stepB1_frame (b : Byte) (s : State) :
    StartKept s (stepB1 b s) ∧ (stepB1 b s).maskKey = s.maskKey ∧
      ((stepB1 b s).phase = .ext → (stepB1 b s).payloadLength = s.payloadLength) ∧
      ((stepB1 b s).phase ≠ .ext → (stepB1 b s).phase ≠ .key → (stepB1 b s).cnt = s.cnt) ∧
      ((stepB1 b s).phase ≠ .pay → (stepB1 b s).payCnt = s.payCnt) := by
  rcases stepB1_cases b s with ⟨_, e⟩ | ⟨_, _, e⟩ | ⟨_, _, e⟩ <;> rw [e]
  · exact ⟨.refl s, rfl, fun _ => rfl, fun _ _ => rfl, fun _ => rfl⟩
  · obtain ⟨⟨hs, _, _, _, hk⟩, hc, hp, he⟩ := lengthKnown_frame s.fin s.opcode (literalLength (lengthIndicator b))
      (maskBit b) { s with
        masked := maskBit b, len7 := lengthIndicator b, payloadLength := literalLength (lengthIndicator b) }
    exact ⟨hs, hk, fun h => absurd h he, fun _ => hc, hp⟩
  · exact ⟨.refl s, rfl, fun _ => rfl, fun h => absurd rfl h, fun _ => rfl⟩

theorem stepExt_frame (b : Byte) (s : State) :
    StartKept s (stepExt b s) ∧ (stepExt b s).masked = s.masked ∧ (stepExt b s).len7 = s.len7 ∧
      (stepExt b s).maskKey = s.maskKey ∧ ((stepExt b s).phase ≠ .pay → (stepExt b s).payCnt = s.payCnt) := by
  rcases stepExt_cases b s with ⟨_, e⟩ | ⟨_, e⟩ <;> rw [e]
  · obtain ⟨⟨hs, hm, hl, _, hk⟩, _, hp, _⟩ := lengthKnown_frame s.fin s.opcode (appendLengthByte s.payloadLength b)
      s.masked { s with payloadLength := appendLengthByte s.payloadLength b, cnt := s.cnt + 1#4 }
    exact ⟨hs, hm, hl, hk, hp⟩
  · exact ⟨.refl s, rfl, rfl, rfl, fun _ => rfl⟩

theorem stepKey_frame (b : Byte) (s : State) :
    StartKept s (stepKey b s) ∧ (stepKey b s).masked = s.masked ∧ (stepKey b s).len7 = s.len7 ∧
      (stepKey b s).payloadLength = s.payloadLength ∧
      ((stepKey b s).phase ≠ .pay → (stepKey b s).payCnt = s.payCnt) := by
  rcases stepKey_cases b s with ⟨_, e⟩ | ⟨_, e⟩ <;> rw [e]
  · obtain ⟨⟨hs, hm, hl, hn, _⟩, _, hp, _⟩ := headerComplete_frame s.payloadLength
      { s with maskKey := setKeyByte s.maskKey s.cnt.toNat b, cnt := s.cnt + 1#4 }
    exact ⟨hs, hm, hl, hn, hp⟩
  · exact ⟨.refl s, rfl, rfl, rfl, fun _ => rfl⟩

theorem storePayload_frame (b : Byte) (s : State) :
    FrameKept s (storePayload b s) ∧ (storePayload b s).cnt = s.cnt := by
  rcases storePayload_cases b s with ⟨_, e⟩ | ⟨_, e⟩ <;> rw [e] <;>
    exact ⟨.refl s, rfl⟩

/-- Settles O35, phase by phase: the clauses about other phases say nothing. -/
theorem execRegisterFrame : Obligations.ExecRegisterFrame := by
  intro i s t h
  rcases exec_cases h with ⟨hp, _⟩ | ⟨hp, rfl⟩ | ⟨hp, rfl⟩ | ⟨hp, rfl⟩ | ⟨hp, _, rfl⟩ | ⟨hp, rfl⟩
  · simp [hp]
  · obtain ⟨hs, hk, hn, hc, hpc⟩ := stepB1_frame s.pins.inByte s.beginStep
    exact ⟨fun _ => hs, by simp [hp], by simp [hp], fun _ _ => hk, fun _ => hn, by simp [hp], fun _ => hc,
      fun _ _ => hpc⟩
  · obtain ⟨hs, hm, hl, hk, hpc⟩ := stepExt_frame s.pins.inByte s.beginStep
    exact ⟨fun _ => hs, fun _ _ => ⟨hm, hl⟩, by simp [hp], fun _ _ => hk, by simp [hp], by simp [hp], by simp [hp],
      fun _ _ => hpc⟩
  · obtain ⟨hs, hm, hl, hn, hpc⟩ := stepKey_frame s.pins.inByte s.beginStep
    exact ⟨fun _ => hs, fun _ _ => ⟨hm, hl⟩, fun _ => hn, by simp [hp], by simp [hp], by simp [hp], by simp [hp],
      fun _ _ => hpc⟩
  · obtain ⟨⟨hs, hm, hl, hn, hk⟩, hc⟩ := storePayload_frame s.pins.inByte s.beginStep
    exact ⟨fun _ => hs, fun _ _ => ⟨hm, hl⟩, fun _ => hn, fun _ _ => hk, by simp [hp], fun _ => hc, by simp [hp],
      by simp [hp]⟩
  · simp [hp, stepErr]

end Sys2Proof.Machine
end

section
/-! PROOF. O41: a byte moves the frame offset on by one. -/

namespace Sys2Proof.Machine

variable {s : State}

theorem withSignal_eq_consumed (o : Outputs) (g : Sig) (r : ErrReason) (a : CtlAction) :
    ∃ w, o.withSignal g r a = .consumed g r a w := by
  cases o <;> exact ⟨_, rfl⟩

/-- The next byte is at frame offset `k`, unless the frame is completed or an error raised (R30). -/
def OffsetReaches (k : Nat) (t : State) : Prop :=
  frameOffset t = some k ∨ (frameOffset t = some 0 ∧ ∃ a w, t.out = .consumed .frameComplete .none a w) ∨ t.phase = .err

/-- After the header comes payload byte 0, at offset HDR_SIZE (R29, R30). -/
theorem headerComplete_offset (plen : Word64) (s : State) : OffsetReaches (hdrSize s) (headerComplete plen s) := by
  rcases headerComplete_cases plen s with ⟨_, e⟩ | ⟨_, e⟩ <;> rw [e]
  · exact .inr (.inl ⟨rfl, _, withSignal_eq_consumed ..⟩)
  · exact .inl rfl

/-- After the length field comes the mask key, or the payload of an unmasked frame. -/
theorem lengthKnown_offset (fin : Bool) (op : BitVec 4) (plen : Word64) (s : State) :
    OffsetReaches (2 + extSize s.len7) (lengthKnown fin op plen s.masked s) := by
  rcases lengthKnown_cases fin op plen s.masked s with ⟨_, _, e⟩ | ⟨_, _, _, e⟩ | ⟨_, _, e⟩ | ⟨_, hm, e⟩ <;> rw [e]
  · exact .inr (.inr rfl)
  · exact .inr (.inr rfl)
  · exact .inl rfl
  · have hsize : hdrSize s = 2 + extSize s.len7 := by simp [hdrSize, hm]
    exact hsize ▸ headerComplete_offset plen s

theorem stepB0_offset (h : ByteZero) (s : State) : OffsetReaches 1 (stepB0 h s) := by
  rcases stepB0_cases h s with ⟨_, e⟩ | ⟨_, _, e⟩ | ⟨_, _, _, _, e⟩ <;> rw [e]
  · exact .inr (.inr rfl)
  · exact .inr (.inr rfl)
  · exact .inl rfl

theorem stepB1_offset (b : Byte) (s : State) : OffsetReaches 2 (stepB1 b s) := by
  rcases stepB1_cases b s with ⟨_, e⟩ | ⟨_, hl, e⟩ | ⟨_, _, e⟩ <;> rw [e]
  · exact .inr (.inr rfl)
  · have hsize : extSize (lengthIndicator b) = 0 := if_pos hl
    have h := lengthKnown_offset s.fin s.opcode (literalLength (lengthIndicator b)) { s with
      masked := maskBit b, len7 := lengthIndicator b, payloadLength := literalLength (lengthIndicator b) }
    rwa [hsize] at h
  · exact .inl rfl

theorem stepExt_offset (b : Byte) (hi : Inv s) (hp : s.phase = .ext) :
    OffsetReaches (2 + s.cnt.toNat + 1) (stepExt b s) := by
  obtain ⟨-, -, -, hform, -⟩ := (inv_iff_phase hp).mp hi
  have hsucc : (s.cnt + 1#4).toNat = s.cnt.toNat + 1 :=
    cnt_succ_toNat (by rcases hform with ⟨_, h⟩ | ⟨_, h⟩ <;> bv_omega)
  have hsize : extSize s.len7 = (extNeed s.len7).toNat := by
    rcases hform with ⟨h, _⟩ | ⟨h, _⟩ <;> rw [h] <;> decide
  rw [Nat.add_assoc, ← hsucc]
  rcases stepExt_cases b s with ⟨hlast, e⟩ | ⟨_, e⟩ <;> rw [e]
  · rw [hlast, ← hsize]
    exact lengthKnown_offset _ _ _ { s with
      payloadLength := appendLengthByte s.payloadLength b, cnt := extNeed s.len7 }
  · exact .inl (by simp [frameOffset, hp])

theorem stepKey_offset (b : Byte) (hi : Inv s) (hp : s.phase = .key) :
    OffsetReaches (2 + extSize s.len7 + s.cnt.toNat + 1) (stepKey b s) := by
  obtain ⟨-, -, -, -, hm, hcnt, -⟩ := (inv_iff_phase hp).mp hi
  have hsucc : (s.cnt + 1#4).toNat = s.cnt.toNat + 1 := cnt_succ_toNat (by bv_omega)
  rw [Nat.add_assoc, ← hsucc]
  rcases stepKey_cases b s with ⟨hlast, e⟩ | ⟨_, e⟩ <;> rw [e]
  · have hsize : hdrSize s = 2 + extSize s.len7 + (s.cnt + 1#4).toNat := by simp [hdrSize, hm, hlast]
    rw [← hsize]
    exact headerComplete_offset _ { s with maskKey := setKeyByte s.maskKey s.cnt.toNat b, cnt := s.cnt + 1#4 }
  · exact .inl (by simp [frameOffset, hp])

theorem storePayload_offset (b : Byte) (hi : Inv s) (hp : s.phase = .pay) :
    OffsetReaches (hdrSize s + s.payCnt.toNat + 1) (storePayload b s) := by
  obtain ⟨-, -, -, -, ⟨-, hlt, -⟩, -⟩ := (inv_iff_phase hp).mp hi
  have hsucc : (s.payCnt + 1#64).toNat = s.payCnt.toNat + 1 := by bv_omega
  rw [Nat.add_assoc, ← hsucc]
  rcases storePayload_cases b s with ⟨_, e⟩ | ⟨_, e⟩ <;> rw [e]
  · exact .inr (.inl ⟨rfl, _, _, rfl⟩)
  · exact .inl (by simp [frameOffset, hp, hdrSize])

/-- Settles O41: in each phase the offset is that of the byte awaited, and its step moves it on. -/
theorem frameOffsetAdvances : Obligations.FrameOffsetAdvances := by
  intro i s t k hi h hk
  have hb : Inv s.beginStep := hi.with_ports _ _ _
  change OffsetReaches (k + 1) t
  rcases exec_cases h with ⟨hp, rfl⟩ | ⟨hp, rfl⟩ | ⟨hp, rfl⟩ | ⟨hp, rfl⟩ | ⟨hp, _, rfl⟩ | ⟨hp, _⟩ <;>
    simp only [frameOffset, hp, Option.some.injEq, reduceCtorEq] at hk <;> subst hk
  · exact stepB0_offset _ _
  · exact stepB1_offset _ _
  · exact stepExt_offset _ hb hp
  · exact stepKey_offset _ hb hp
  · exact storePayload_offset (s := s.beginStep) _ hb hp

end Sys2Proof.Machine
end

section
/-! PROOF. O10 and O12: a cycle with a byte runs the instruction in flight, a cycle without one only sets the ports. -/

namespace Sys2Proof.Machine

variable {s : State} {i : Instr}

theorem instrInFlight_b0 (hp : s.phase = .b0) : instrInFlight s = decodeByte s.pins.inByte := by
  simp [instrInFlight, hp]

/-- After byte 0 the registers hold the word of the instruction in flight (R81). -/
theorem instrInFlight_eq (hp : s.phase ≠ .b0) (ho : i.opcode = s.opcode) (hf : i.fin = s.fin) (h1 : i.rsv1 = s.rsv1)
    (h2 : i.rsv2 = s.rsv2) (h3 : i.rsv3 = s.rsv3) : instrInFlight s = i := by
  have hword : byteZeroOfRegisters s = encodeByte i := by
    rw [encodeByte_eq_byteZero, ho, hf, h1, h2, h3]
    rfl
  have hlater : instrInFlight s = decodeByte (byteZeroOfRegisters s) := by
    unfold instrInFlight
    cases hph : s.phase with
    | b0 => exact absurd hph hp
    | b1 | ext | key | pay | err => rfl
  rw [hlater, hword, decodeByte_encodeByte]

/-- Settles O10: the step is exec of the instruction in flight, which byte 0 or the registers tell. -/
theorem stepRunsDecodedInstruction : Obligations.StepRunsDecodedInstruction := by
  intro s p rest i hs hr hv
  have hstep : step s = exec (instrInFlight (s.latch p rest)) (s.latch p rest) :=
    (step_of_pending hs).trans (clockCycle_byte hr hv)
  refine ⟨fun hp ⟨bs, hd⟩ => ?_, fun hp ho hf h1 h2 h3 => ?_⟩
  · have hdec : decodeByte p.inByte = i := by simpa [decode] using hd
    rw [hstep, (instrInFlight_b0 (by exact hp)).trans hdec]
    rfl
  · rw [hstep, instrInFlight_eq (s := s.latch p rest) hp ho hf h1 h2 h3]
    rfl

/-- Settles O12: the idle cycle, whether the host makes it or has no move left. -/
theorem idleCycleChangesNothing : Obligations.IdleCycleChangesNothing := by
  intro s
  refine ⟨fun p rest hs hr hv => ?_, fun hs => ?_, fun ho => ?_⟩
  · exact (step_of_pending hs).trans (clockCycle_idle hr hv)
  · have hstep : step s = .next (idleCycle s.withhold) := by
      rw [step, hs]
      exact clockCycle_idle rfl rfl
    exact ⟨_, hstep, rfl⟩
  · simp [ports, ho, Outputs.sigValid, Outputs.payloadWrite, Outputs.sigPort, Outputs.errReasonPort,
      Outputs.ctlActionPort]

end Sys2Proof.Machine
end

section
/-! PROOF. O37 and O38: the codes and the ports. -/

namespace Sys2Proof.Machine

/-- Settles O37, code by code. -/
theorem portCodes : Obligations.PortCodes := by
  refine ⟨by decide, by decide, by decide, by decide, fun g => ?_, fun r => ?_, fun p => ?_, by decide⟩
  · cases g <;> decide
  · cases r <;> decide
  · cases p <;> decide

/-- The ports of a cycle that consumed a byte (R42). -/
theorem ports_of_consumed {s : State} {g : Sig} {r : ErrReason} {a : CtlAction} {w : Option PayloadWrite}
    (ho : s.out = .consumed g r a w) :
    (ports s).sigValid = true ∧ (ports s).sig = some g.code ∧ (ports s).errReason = some r.code ∧
      (ports s).ctlAction = some a.code ∧ (ports s).pwEn = w.isSome ∧ (ports s).pwAddr = w.map PayloadWrite.addr ∧
      (ports s).pwData = w.map PayloadWrite.data := by
  simp only [ports, ho]
  exact ⟨rfl, rfl, rfl, rfl, rfl, rfl, rfl⟩

/-- Settles O38: the ports are the outputs, the registers and the views. -/
theorem portsShowOutputsAndRegisters : Obligations.PortsShowOutputsAndRegisters := by
  intro s
  refine ⟨fun g r a w ho => ?_, rfl, rfl, rfl, rfl, rfl, fun t ht => ?_, rfl, rfl, rfl, rfl, rfl⟩
  · obtain ⟨hv, hg, hr, ha, hen, haddr, hdata⟩ := ports_of_consumed ho
    refine ⟨hv, hg, hr, ha, hen, fun x hx => ?_⟩
    rw [haddr, hdata, hx]
    exact ⟨rfl, rfl⟩
  · exact ⟨by simp [ports, ftypePort, ht], isControlOp_eq ht⟩

end Sys2Proof.Machine
end

section
/-! PROOF. O43 and O44: PMEM's cells and the consumer's read. -/

namespace Sys2Proof.Machine

/-- Settles O43 by the laws of a write. -/
theorem pmemReadAfterWrite : Obligations.PmemReadAfterWrite := fun m a v =>
  ⟨Memory.read_write_same m a.toNat v, fun _ hb => Memory.read_write_other m v hb, Memory.wf_write m a v⟩

/-- Settles O44: under the invariant every cell of the window is written, so a read inside it is never a free value. -/
theorem consumerReadsCompletedPayload : Obligations.ConsumerReadsCompletedPayload := by
  intro s a draw hi
  obtain ⟨hwritten, hshown, -⟩ := hi.window
  refine ⟨fun ha => ?_, fun ha => ?_, hshown⟩
  · have hsome := hwritten a.toNat ha
    rcases memRead_cases s a draw with ⟨_, ⟨b, hb, hr⟩ | ⟨hnone, _⟩⟩ | ⟨hout, _⟩
    · rw [hb, hr]
    · simp [hnone] at hsome
    · exact absurd ha hout
  · rcases memRead_cases s a draw with ⟨hin, _⟩ | ⟨_, hr⟩
    · exact absurd hin ha
    · exact hr

end Sys2Proof.Machine
end

section
/-! PROOF. O50: the extended-length bytes, shifted in from 0, are their big-endian value. -/

namespace Sys2Proof

theorem bigEndianValue_append_singleton (bs : List Byte) (b : Byte) :
    bigEndianValue (bs ++ [b]) = bigEndianValue bs * 256 + b.toNat := by
  simp [bigEndianValue]

theorem bigEndianValue_lt (bs : List Byte) : bigEndianValue bs < 256 ^ bs.length := by
  induction bs using List.reverseRecOn with
  | nil => decide
  | append_singleton bs b ih =>
    rw [bigEndianValue_append_singleton, List.length_append, List.length_singleton, pow_succ]
    have := b.isLt
    omega

end Sys2Proof

namespace Sys2Proof.Machine

/-- Up to eight bytes shifted in from 0 are their big-endian value: before the last, at most seven leave room (R124). -/
theorem foldl_appendLengthByte_toNat (bs : List Byte) (hlen : bs.length ≤ 8) :
    (bs.foldl appendLengthByte 0#64).toNat = bigEndianValue bs := by
  induction bs using List.reverseRecOn with
  | nil => rfl
  | append_singleton bs b ih =>
    rw [List.length_append, List.length_singleton] at hlen
    have hv := ih (by omega)
    have hroom : (bs.foldl appendLengthByte 0#64).toNat < 2 ^ 56 :=
      calc _ = bigEndianValue bs := hv
        _ < 256 ^ bs.length := bigEndianValue_lt bs
        _ ≤ 256 ^ 7 := Nat.pow_le_pow_right (by decide) (by omega)
    rw [bigEndianValue_append_singleton, ← hv, List.foldl_append]
    exact appendLengthByte_toNat b hroom

/-- Settles O50, by induction on the bytes from the last one. -/
theorem extendedLengthIsBigEndian : Obligations.ExtendedLengthIsBigEndian := by
  refine ⟨foldl_appendLengthByte_toNat, fun e0 e1 => ?_, fun e0 e1 e2 e3 e4 e5 e6 e7 => ?_⟩
  · simp [bigEndianValue]
  · simp only [bigEndianValue, List.foldl_cons, List.foldl_nil]
    omega

end Sys2Proof.Machine
end

section
/-! PROOF. O29 and O34: a byte and what surrounds the frame registers: the policy, PMEM with its window, PMAX and the
input. A byte outside PH_PAY reads of them only the policy and the byte itself, and changes none (`withPlatformOf`); a
payload byte writes one cell, or is refused. -/

namespace Sys2Proof.Machine

/-- The machine `s` with the policy, PMEM, the window, PMAX and the input of `u`. -/
def State.withPlatformOf (s u : State) : State :=
  { s with
    maskReq := u.maskReq, pmem := u.pmem, window := u.window, pmax := u.pmax, pins := u.pins, pending := u.pending }

variable {s t u : State} {i : Instr}

/-! ## The header procedures and the byte steps -/

theorem headerComplete_withPlatformOf (plen : Word64) (s u : State) :
    headerComplete plen (s.withPlatformOf u) = (headerComplete plen s).withPlatformOf u := by
  unfold headerComplete
  split <;> rfl

theorem lengthKnown_withPlatformOf (fin : Bool) (op : BitVec 4) (plen : Word64) (m : Bool) (s u : State) :
    lengthKnown fin op plen m (s.withPlatformOf u) = (lengthKnown fin op plen m s).withPlatformOf u := by
  unfold lengthKnown
  rw [headerComplete_withPlatformOf]
  split_ifs <;> rfl

theorem stepB0_withPlatformOf (h : ByteZero) (s u : State) :
    stepB0 h (s.withPlatformOf u) = (stepB0 h s).withPlatformOf u := by
  unfold stepB0
  dsimp only
  split_ifs <;> rfl

/-- The byte-1 step reads the policy (R122), so the two machines must agree on it. -/
theorem stepB1_withPlatformOf (b : Byte) (hu : u.maskReq = s.maskReq) :
    stepB1 b (s.withPlatformOf u) = (stepB1 b s).withPlatformOf u := by
  rcases stepB1_cases b s with ⟨hm, e⟩ | ⟨hm, hl, e⟩ | ⟨hm, hl, e⟩ <;> rw [e] <;> rw [← hu] at hm
  · exact if_pos hm
  · rw [← lengthKnown_withPlatformOf]
    exact (if_neg (not_not.mpr hm)).trans (if_pos hl)
  · exact (if_neg (not_not.mpr hm)).trans (if_neg hl)

theorem stepExt_withPlatformOf (b : Byte) (s u : State) :
    stepExt b (s.withPlatformOf u) = (stepExt b s).withPlatformOf u := by
  rcases stepExt_cases b s with ⟨hc, e⟩ | ⟨hc, e⟩ <;> rw [e]
  · rw [← lengthKnown_withPlatformOf]
    exact if_pos hc
  · exact if_neg hc

theorem stepKey_withPlatformOf (b : Byte) (s u : State) :
    stepKey b (s.withPlatformOf u) = (stepKey b s).withPlatformOf u := by
  rcases stepKey_cases b s with ⟨hc, e⟩ | ⟨hc, e⟩ <;> rw [e]
  · rw [← headerComplete_withPlatformOf]
    exact if_pos hc
  · exact if_neg hc

/-- Of these, a byte outside PH_PAY reads only the policy and the byte itself, and it hands all of them on (R60, R120). -/
theorem exec_withPlatformOf (hp : s.phase ≠ .pay) (hm : u.maskReq = s.maskReq) (hb : u.pins.inByte = s.pins.inByte)
    (h : exec i s = .next t) : exec i (s.withPlatformOf u) = .next (t.withPlatformOf u) := by
  have hbyte : (s.withPlatformOf u).pins.inByte = s.pins.inByte := hb
  rw [exec_eq]
  rcases exec_cases h with ⟨hph, rfl⟩ | ⟨hph, rfl⟩ | ⟨hph, rfl⟩ | ⟨hph, rfl⟩ | ⟨hph, _⟩ | ⟨hph, rfl⟩
  · rw [frameByte_b0 _ (by exact hph), ← stepB0_withPlatformOf]
    rfl
  · rw [frameByte_b1 _ (by exact hph), ← stepB1_withPlatformOf _ (by exact hm), hbyte]
    rfl
  · rw [frameByte_ext _ (by exact hph), ← stepExt_withPlatformOf, hbyte]
    rfl
  · rw [frameByte_key _ (by exact hph), ← stepKey_withPlatformOf, hbyte]
    rfl
  · exact absurd hph hp
  · rw [frameByte_err _ (by exact hph)]
    rfl

/-- Outside PH_PAY a byte changes neither the policy nor PMEM with its window, nor PMAX, nor the input. -/
theorem exec_platform_kept (hp : s.phase ≠ .pay) (h : exec i s = .next t) : t = t.withPlatformOf s := by
  have hself : exec i s = .next (t.withPlatformOf s) := exec_withPlatformOf hp rfl rfl h
  rw [h] at hself
  injection hself

/-! ## The payload step -/

/-- Only a payload byte is refused, and exactly when its frame exceeds PMAX (R66). -/
theorem exec_eq_refused_iff {r : Refusal} :
    exec i s = .refused r ↔ s.phase = .pay ∧ exceedsPmax s = true ∧ r = .payloadExceedsPmax := by
  rw [exec_eq]
  cases hp : s.phase with
  | b0 => simp [frameByte_b0 _ hp]
  | b1 => simp [frameByte_b1 _ hp]
  | ext => simp [frameByte_ext _ hp]
  | key => simp [frameByte_key _ hp]
  | pay =>
    rw [frameByte_pay _ hp, stepPay, exceedsPmax_beginStep]
    split
    · next he => simp [he, eq_comm]
    · next he => simp [he]
  | err => simp [frameByte_err _ hp]

/-- A payload byte of a frame that PMAX holds is stored (R140). -/
theorem exec_pay (i : Instr) (hp : s.phase = .pay) (hm : exceedsPmax s = false) :
    exec i s = .next (storePayload s.pins.inByte s.beginStep) := by
  rw [exec_eq, frameByte_pay _ hp, stepPay, exceedsPmax_beginStep, hm]
  rfl

/-- A payload byte that has a next state is stored. -/
theorem eq_storePayload_of_exec (hp : s.phase = .pay) (h : exec i s = .next t) :
    exceedsPmax s = false ∧ t = storePayload s.pins.inByte s.beginStep := by
  simpa [hp] using exec_cases h

/-- The payload step writes PAY_CNT's cell (R62), and neither the policy, nor PMAX, nor the input. -/
theorem storePayload_memory (b : Byte) (s : State) :
    (storePayload b s).pmem = Memory.write s.pmem s.payCnt.toNat (unmask b s.payCnt.toNat s.maskKey) ∧
      (storePayload b s).maskReq = s.maskReq ∧ (storePayload b s).pmax = s.pmax ∧ (storePayload b s).pins = s.pins ∧
      (storePayload b s).pending = s.pending := by
  rcases storePayload_cases b s with ⟨_, e⟩ | ⟨_, e⟩ <;> rw [e] <;>
    exact ⟨rfl, rfl, rfl, rfl, rfl⟩

/-- Settles O29: the payload byte of such a frame exceeds PMAX. -/
theorem frameBeyondPmaxIsRefused : Obligations.FrameBeyondPmaxIsRefused := by
  intro i s n hp hn hlt
  exact exec_eq_refused_iff.mpr ⟨hp, by simp [exceedsPmax, hn, hlt], rfl⟩

/-- Settles O34: a payload step writes PAY_CNT's cell, and any other byte nothing of PMEM. -/
theorem execMemoryFrame : Obligations.ExecMemoryFrame := by
  intro i s t h
  by_cases hp : s.phase = .pay
  · obtain ⟨-, rfl⟩ := eq_storePayload_of_exec hp h
    obtain ⟨hmem, hkept⟩ := storePayload_memory s.pins.inByte s.beginStep
    refine ⟨fun a ha => ?_, fun hne => absurd hp hne, hkept⟩
    rw [hmem]
    exact Memory.read_write_other s.pmem _ (ha hp)
  · rw [exec_platform_kept hp h]
    exact ⟨fun _ _ => rfl, fun _ => ⟨rfl, rfl⟩, rfl, rfl, rfl, rfl⟩

end Sys2Proof.Machine
end

section
/-! PROOF. O45: what a cycle can do to the validity window. -/

namespace Sys2Proof.Machine

variable {s t : State} {i : Instr}

/-- What a cycle can do to the window: without a store it stays, and so does PMEM; a store opens it on the completed
frame's payload, or ends it (R72, R218). -/
def WindowKeptOrReplaced (s t : State) : Prop :=
  ((ports t).pwEn = false ∧ t.pmem = s.pmem ∧ t.window = s.window) ∨
    ((ports t).pwEn = true ∧ (ports t).sig = some Sig.frameComplete.code ∧ t.window = t.payloadLength) ∨
    ((ports t).pwEn = true ∧ (ports t).sig = some Sig.incomplete.code ∧ t.window = 0#64)

theorem exec_window (h : exec i s = .next t) : WindowKeptOrReplaced s t := by
  by_cases hp : s.phase = .pay
  · obtain ⟨-, rfl⟩ := eq_storePayload_of_exec hp h
    rcases storePayload_cases s.pins.inByte s.beginStep with ⟨_, e⟩ | ⟨_, e⟩ <;> rw [e]
    · exact .inr (.inl ⟨rfl, rfl, rfl⟩)
    · exact .inr (.inr ⟨rfl, rfl, rfl⟩)
  · obtain ⟨g, r, a, w, ho, -, -, -, hw⟩ := stepOutputsAreConsistent i s t h
    obtain ⟨-, -, -, -, hen, -⟩ := ports_of_consumed ho
    obtain ⟨-, hkept, -⟩ := execMemoryFrame i s t h
    exact .inl ⟨by simpa [hen, ← hw] using hp, hkept hp⟩

theorem step_window (h : step s = .next t) : WindowKeptOrReplaced s t := by
  obtain ⟨p, ps, ⟨_, rfl⟩ | ⟨_, _, he⟩ | ⟨_, _, rfl⟩⟩ := step_cases h
  · exact .inl ⟨rfl, rfl, rfl⟩
  · have hw := exec_window he
    exact hw
  · exact .inl ⟨rfl, rfl, rfl⟩

/-- Settles O45: its three clauses are the three ways a step can treat the window. -/
theorem validityWindowLastsToNextPayload : Obligations.ValidityWindowLastsToNextPayload := by
  intro s t h
  rcases step_window h with ⟨hen, hmem, hwin⟩ | ⟨hen, hsig, hwin⟩ | ⟨hen, hsig, hwin⟩ <;> rw [hen]
  · exact ⟨fun _ => ⟨hwin, memRead_congr hmem hwin⟩, by simp, by simp⟩
  · exact ⟨by simp, fun _ _ => hwin, fun _ hne => absurd hsig hne⟩
  · exact ⟨by simp, fun _ hsig' => absurd (hsig.symm.trans hsig') (by decide), fun _ _ => hwin⟩

end Sys2Proof.Machine
end

section
/-! PROOF. O46: PMEM's contents decide nothing: a step from other contents (`withPmem`) is the same but for PMEM. -/

namespace Sys2Proof.Machine

variable {s t : State} {i : Instr}

/-- The same machine with other contents of PMEM. -/
def State.withPmem (s : State) (m : Memory) : State := { s with pmem := m }

/-- The payload step stores the same byte in the same place, and does not read PMEM. -/
theorem storePayload_withPmem (b : Byte) (s : State) (m : Memory) :
    storePayload b (s.withPmem m) =
      (storePayload b s).withPmem (Memory.write m s.payCnt.toNat (unmask b s.payCnt.toNat s.maskKey)) := by
  rcases storePayload_cases b s with ⟨hc, e⟩ | ⟨hc, e⟩ <;>
    rcases storePayload_cases b (s.withPmem m) with ⟨hc', e'⟩ | ⟨hc', e'⟩ <;> rw [e, e']
  · rfl
  · exact absurd hc hc'
  · exact absurd hc' hc
  · rfl

theorem exec_withPmem (h : exec i s = .next t) (m : Memory) :
    ∃ m', exec i (s.withPmem m) = .next (t.withPmem m') := by
  by_cases hp : s.phase = .pay
  · obtain ⟨hmax, rfl⟩ := eq_storePayload_of_exec hp h
    exact ⟨_, (exec_pay i (by exact hp) (by exact hmax)).trans
      (congrArg _ (storePayload_withPmem s.pins.inByte s.beginStep m))⟩
  · refine ⟨m, (exec_withPlatformOf (u := s.withPmem m) hp rfl rfl h).trans ?_⟩
    rw [exec_platform_kept hp h]
    rfl

theorem clockCycle_withPmem (h : clockCycle s = .next t) (m : Memory) :
    ∃ m', clockCycle (s.withPmem m) = .next (t.withPmem m') := by
  rcases clockCycle_cases h with ⟨hr, rfl⟩ | ⟨hr, hv, he⟩ | ⟨hr, hv, rfl⟩
  · exact ⟨m, if_pos hr⟩
  · obtain ⟨m', hm'⟩ := exec_withPmem he m
    exact ⟨m', (clockCycle_byte (by exact hr) (by exact hv)).trans hm'⟩
  · exact ⟨m, clockCycle_idle (by exact hr) (by exact hv)⟩

/-- Only a byte can be refused (R66, R186). -/
theorem clockCycle_eq_refused {r : Refusal} (h : clockCycle s = .refused r) :
    s.pins.rst = false ∧ s.pins.inValid = true ∧ exec (instrInFlight s) s = .refused r := by
  unfold clockCycle at h
  split_ifs at h with hr hv
  exact ⟨by simpa using hr, hv, h⟩

/-- Whether a byte is refused depends on PHASE, PAYLOAD_LENGTH and PMAX only. -/
theorem clockCycle_refused_withPmem {r : Refusal} (h : clockCycle s = .refused r) (m : Memory) :
    clockCycle (s.withPmem m) = .refused r := by
  obtain ⟨hr, hv, he⟩ := clockCycle_eq_refused h
  have hmax := exec_eq_refused_iff.mp he
  exact (clockCycle_byte (by exact hr) (by exact hv)).trans (exec_eq_refused_iff.mpr hmax)

theorem nextCycle_withPmem (s : State) (m : Memory) : (s.withPmem m).nextCycle = s.nextCycle.withPmem m := by
  have hpending : (s.withPmem m).pending = s.pending := rfl
  unfold State.nextCycle
  rw [hpending]
  cases s.pending <;> rfl

theorem step_withPmem (s : State) (m : Memory) : step (s.withPmem m) = clockCycle (s.nextCycle.withPmem m) := by
  rw [step_eq, nextCycle_withPmem]

/-- Settles O46: the two steps run the same clock cycle, and its byte is stored, or refused, in both. -/
theorem pmemContentsDecideNothing : Obligations.PmemContentsDecideNothing := by
  intro s m
  refine ⟨fun t h => ?_, fun r h => ?_⟩ <;> rw [step_eq] at h
  · obtain ⟨m', hm'⟩ := clockCycle_withPmem h m
    exact ⟨m', (step_withPmem s m).trans hm'⟩
  · exact (step_withPmem s m).trans (clockCycle_refused_withPmem h m)

end Sys2Proof.Machine
end

section
/-! PROOF. O4 and O5: a frame and its bytes. The length field, the mask key and the payload each come back from their
encoding, and go back to it; `decodeOperands_eq_some_iff` says which byte strings decode to operands. -/

namespace Sys2Proof

/-! ## Byte 1 and the length field -/

/-- Byte 1 is its MASK bit and its length indicator (R82). -/
theorem byteOne_eta (b : Byte) : byteOne (b.getLsbD 7) (b.extractLsb' 0 7) = b := by
  revert b; decide

/-- The big-endian bytes of a number have that number's value (R64). -/
theorem bigEndianValue_bigEndian {n v : Nat} (hv : v < 256 ^ n) : bigEndianValue (bigEndian n v) = v := by
  induction n generalizing v with
  | zero =>
    obtain rfl : v = 0 := by simpa using hv
    rfl
  | succ n ih =>
    have hd : v / 256 < 256 ^ n := Nat.div_lt_of_lt_mul (by rwa [pow_succ'] at hv)
    rw [bigEndian_succ_eq_append, bigEndianValue_append_singleton, ih hd, BitVec.toNat_ofNat]
    omega

/-- Bytes are the big-endian bytes of their value (R64). -/
theorem bigEndian_bigEndianValue (bs : List Byte) : bigEndian bs.length (bigEndianValue bs) = bs := by
  induction bs using List.reverseRecOn with
  | nil => rfl
  | append_singleton bs b ih =>
    have hb := b.isLt
    have hdiv : (bigEndianValue bs * 256 + b.toNat) / 256 = bigEndianValue bs := by omega
    have hlow : BitVec.ofNat 8 (bigEndianValue bs * 256 + b.toNat) = b := BitVec.eq_of_toNat_eq (by
      rw [BitVec.toNat_ofNat]
      omega)
    rw [bigEndianValue_append_singleton, List.length_append, List.length_singleton, bigEndian_succ_eq_append, hdiv, ih,
      hlow]

/-- The three kinds of length indicator (R82). -/
theorem formOfIndicator_cases (l : BitVec 7) :
    (l ≤ 125#7 ∧ formOfIndicator l = .literal) ∨ (l = 126#7 ∧ formOfIndicator l = .ext16) ∨
      (l = 127#7 ∧ formOfIndicator l = .ext64) := by
  revert l; decide

/-- An extended form expresses exactly what its extended-length bytes can hold (R83, R84, R87). -/
theorem le_maxLength_iff_of_extended {form : LenForm} (hform : form ≠ .literal) (n : Nat) :
    n ≤ form.maxLength ↔ n < 256 ^ form.extBytes := by
  cases form with
  | literal => exact absurd rfl hform
  | ext16 | ext64 => simp only [LenForm.maxLength, LenForm.extBytes]; omega

/-- The payload length a length indicator and its extended-length bytes announce (R95). -/
def announcedLength (l : BitVec 7) (ext : List Byte) : Nat :=
  if formOfIndicator l = .literal then l.toNat else bigEndianValue ext

/-- The length field of a form and a length it can express announces that form and that length (R82 to R84, R95). -/
theorem lengthField_of_form {form : LenForm} {n : Nat} (hn : n ≤ form.maxLength) :
    formOfIndicator (form.indicator n) = form ∧
      announcedLength (form.indicator n) (bigEndian form.extBytes n) = n := by
  cases form with
  | literal =>
    have hform : formOfIndicator (BitVec.ofNat 7 n) = .literal := if_pos (Machine.literal_indicator hn).1
    exact ⟨hform, (if_pos hform).trans (Nat.mod_eq_of_lt (show n < 2 ^ 7 from Nat.lt_of_le_of_lt hn (by decide)))⟩
  | ext16 | ext64 => exact ⟨rfl, bigEndianValue_bigEndian ((le_maxLength_iff_of_extended (by decide) n).mp hn)⟩

/-- A length field is that of the form and the length it announces, and the form can express the length. -/
theorem form_of_lengthField {l : BitVec 7} {ext : List Byte} (hext : ext.length = (formOfIndicator l).extBytes) :
    announcedLength l ext ≤ (formOfIndicator l).maxLength ∧
      (formOfIndicator l).indicator (announcedLength l ext) = l ∧
      bigEndian (formOfIndicator l).extBytes (announcedLength l ext) = ext := by
  have hlt := bigEndianValue_lt ext
  have hself := bigEndian_bigEndianValue ext
  rw [hext] at hlt hself
  rcases formOfIndicator_cases l with ⟨hle, hform⟩ | ⟨rfl, hform⟩ | ⟨rfl, hform⟩
  · have hann : announcedLength l ext = l.toNat := if_pos hform
    rw [hann, hform]
    rw [hform] at hext
    exact ⟨hle, BitVec.ofNat_toNat .., (List.length_eq_zero_iff.mp hext).symm⟩
  · exact ⟨(le_maxLength_iff_of_extended (by decide) _).mpr hlt, rfl, hself⟩
  · exact ⟨(le_maxLength_iff_of_extended (by decide) _).mpr hlt, rfl, hself⟩

/-! ## The mask key and the payload -/

theorem keyBytes_length (k : Option MaskKey) : (keyBytes k).length = if k.isSome then 4 else 0 := by
  cases k <;> rfl

theorem keyOfBytes_keyBytes (k : Option MaskKey) : keyOfBytes (keyBytes k) = k := by
  cases k <;> rfl

/-- The key bytes of a frame are those of the key they make, which is there exactly when MASK is 1 (R85). -/
theorem keyBytes_keyOfBytes {masked : Bool} {kb : List Byte} (h : kb.length = if masked then 4 else 0) :
    keyBytes (keyOfBytes kb) = kb ∧ (keyOfBytes kb).isSome = masked := by
  cases masked with
  | false =>
    obtain rfl : kb = [] := List.length_eq_zero_iff.mp h
    exact ⟨rfl, rfl⟩
  | true =>
    obtain ⟨k0, k1, k2, k3, rfl⟩ := List.length_eq_four.mp h
    exact ⟨rfl, rfl⟩

theorem xorPayload_xorPayload (key : MaskKey) (i : Nat) (bs : List Byte) :
    Machine.xorPayload key i (Machine.xorPayload key i bs) = bs := by
  induction bs generalizing i with
  | nil => rfl
  | cons b bs ih => simp [Machine.xorPayload, ih]

/-! ## The operands and the frame -/

/-- The byte strings that decode to operands: byte 1, the extended length, the mask key and the wire payload, each as
long as byte 1 and the length field say, and the bytes after the frame (R80, R82 to R86, R95). -/
theorem decodeOperands_eq_some_iff {bs rest : List Byte} {o : Operands} :
    decodeOperands bs = some (o, rest) ↔
      ∃ (masked : Bool) (l : BitVec 7) (ext kb wire : List Byte),
        bs = byteOne masked l :: (ext ++ (kb ++ (wire ++ rest))) ∧ ext.length = (formOfIndicator l).extBytes ∧
        kb.length = (if masked then 4 else 0) ∧ wire.length = announcedLength l ext ∧
        o = ⟨keyOfBytes kb, formOfIndicator l,
          Machine.xorPayload ((keyOfBytes kb).getD Machine.zeroKey) 0 wire⟩ := by
  constructor
  · intro h
    cases bs with
    | nil => cases h
    | cons b bs =>
      unfold decodeOperands at h
      dsimp only at h
      split at h
      · cases h
      next ext r2 hext =>
      split at h
      · cases h
      next kb r3 hkb =>
      split at h
      · cases h
      next wire r4 hwire =>
      obtain ⟨rfl, hextLen⟩ := takeExactly_eq_some hext
      obtain ⟨rfl, hkbLen⟩ := takeExactly_eq_some hkb
      obtain ⟨rfl, hwireLen⟩ := takeExactly_eq_some hwire
      cases h
      exact ⟨_, _, ext, kb, wire, by rw [byteOne_eta], hextLen, hkbLen, hwireLen, rfl⟩
  · rintro ⟨masked, l, ext, kb, wire, rfl, hext, hkb, hwire, rfl⟩
    obtain ⟨hm, hl⟩ := byteOne_bits masked l
    have takeExt := hext ▸ takeExactly_append ext (kb ++ (wire ++ rest))
    have takeKey := hkb ▸ takeExactly_append kb (wire ++ rest)
    have takeWire := hwire ▸ takeExactly_append wire rest
    unfold announcedLength at takeWire
    simp only [decodeOperands, hm, hl, takeExt, takeKey, takeWire]

/-- Operands whose form can express their length come back from their bytes (R80 to R86). -/
theorem decodeOperands_encodeOperands {o : Operands} (hfit : o.payload.length ≤ o.form.maxLength) (rest : List Byte) :
    decodeOperands (encodeOperands o ++ rest) = some (o, rest) := by
  obtain ⟨hform, hlen⟩ := lengthField_of_form hfit
  refine decodeOperands_eq_some_iff.mpr ⟨o.key.isSome, o.form.indicator o.payload.length, bigEndian o.form.extBytes
    o.payload.length, keyBytes o.key, Machine.xorPayload (o.key.getD Machine.zeroKey) 0 o.payload, ?_, ?_, ?_, ?_, ?_⟩
  · simp [encodeOperands]
  · rw [bigEndian_length, hform]
  · exact keyBytes_length o.key
  · rw [Machine.xorPayload_length, hlen]
  · rw [keyOfBytes_keyBytes, hform, xorPayload_xorPayload]

/-- Bytes that decode to operands are those operands' bytes, with a length the form can express (R80 to R86). -/
theorem encodeOperands_of_decodeOperands {bs rest : List Byte} {o : Operands}
    (h : decodeOperands bs = some (o, rest)) :
    o.payload.length ≤ o.form.maxLength ∧ bs = encodeOperands o ++ rest := by
  obtain ⟨masked, l, ext, kb, wire, rfl, hext, hkb, hwire, rfl⟩ := decodeOperands_eq_some_iff.mp h
  obtain ⟨hfit, hind, hbytes⟩ := form_of_lengthField hext
  obtain ⟨hkey, hmask⟩ := keyBytes_keyOfBytes hkb
  dsimp only
  rw [Machine.xorPayload_length, hwire]
  refine ⟨hfit, ?_⟩
  simp [encodeOperands, Machine.xorPayload_length, xorPayload_xorPayload, hwire, hind, hbytes, hkey, hmask]

theorem encodeFrame_none (i : Instr) : encodeFrame ⟨i, none⟩ = [encodeByte i] := rfl

theorem encodeFrame_some (i : Instr) (o : Operands) : encodeFrame ⟨i, some o⟩ = encodeByte i :: encodeOperands o := rfl

theorem encodeByte_decodeByte (b : Byte) : encodeByte (decodeByte b) = b := by
  revert b; decide

theorem decode_encodeByte (i : Instr) (rest : List Byte) : decode (encodeByte i :: rest) = .ok (i, rest) := by
  rw [decode, Machine.decodeByte_encodeByte]

/-- Settles O4: byte 0 tells whether operands follow, and those decode. -/
theorem frameEncodingRoundTrips : Obligations.FrameEncodingRoundTrips := by
  rintro ⟨i, _ | o⟩ rest hwf
  · have hop : Machine.registryValid i.opcode = false := by simpa [Frame.wf] using hwf
    rw [encodeFrame_none, List.singleton_append]
    simp only [decodeFrame, decode_encodeByte, hop, Bool.false_eq_true, if_false]
  · obtain ⟨hop, hfit⟩ := Machine.wf_frame.mp hwf
    rw [encodeFrame_some, List.cons_append]
    simp only [decodeFrame, decode_encodeByte, hop, if_true, decodeOperands_encodeOperands hfit]

/-- Settles O5, by the ways `decodeFrame` can answer a frame. -/
theorem decodedFrameIsItsEncoding : Obligations.DecodedFrameIsItsEncoding := by
  intro bs f rest h
  cases bs with
  | nil => cases h
  | cons b bs =>
    simp only [decodeFrame, decode] at h
    split at h
    next hop =>
      split at h
      · cases h
      next o rest' ho =>
        cases h
        obtain ⟨hfit, rfl⟩ := encodeOperands_of_decodeOperands ho
        exact ⟨Machine.wf_frame.mpr ⟨hop, hfit⟩, by rw [encodeFrame_some, encodeByte_decodeByte, List.cons_append]⟩
    next hop =>
      cases h
      exact ⟨by simpa [Frame.wf] using hop, by rw [encodeFrame_none, encodeByte_decodeByte, List.singleton_append]⟩

end Sys2Proof
end

section
/-! PROOF. O1, O2 and O3: byte 0, its instruction, and the start word whose high byte it is. -/

namespace Sys2Proof

/-- Settles O1, word by word. -/
theorem opcodeWordsDecode : Obligations.OpcodeWordsDecode := by
  unfold Obligations.OpcodeWordsDecode
  decide

/-- Settles O2. -/
theorem instructionEncodingRoundTrips : Obligations.InstructionEncodingRoundTrips :=
  ⟨decode_encodeByte, encodeByte_decodeByte⟩

/-- A 16-bit table word is decoded from its high byte (R89). -/
theorem decodeTableWord_eq {w : Nat} (hw : w < 65536) :
    decodeTableWord 16 w = some (decodeByte (BitVec.ofNat 8 (w / 256))) := by
  have hbytes : tableBytes 16 w = BitVec.ofNat 8 (w % 65536 / 256) :: (tableBytes 16 w).tail := rfl
  rw [decodeTableWord, hbytes, decode, Nat.mod_eq_of_lt hw]

/-- The mask `0x0F00` keeps of a start word the opcode of the instruction its high byte is (R89). -/
theorem startWord_and_mask (b0 b1 : Byte) :
    (b0 ++ b1) &&& 0x0F00#16 = ((decodeByte b0).opcode.setWidth 16) <<< 8 := by
  rw [← Laws.startWord_mask, ← encodeByte_eq_byteZero, encodeByte_decodeByte]

/-- A 16-bit word is its high byte and its low byte. -/
theorem startWord_bytes (w : Nat) : BitVec.ofNat 8 (w / 256) ++ BitVec.ofNat 8 w = BitVec.ofNat 16 w := by
  apply BitVec.eq_of_toNat_eq
  rw [BitVec.toNat_append, ← Nat.shiftLeft_add_eq_or_of_lt (BitVec.isLt _), Nat.shiftLeft_eq]
  simp only [BitVec.toNat_ofNat]
  omega

theorem opcode_in_startWord_toNat (op : BitVec 4) : ((op.setWidth 16) <<< 8).toNat = op.toNat * 256 := by
  revert op; decide

/-- Settles O3: the word is its two bytes, and `startWord_and_mask` reads the opcode off it. -/
theorem startWordSelectsByOpcodeBits : Obligations.StartWordSelectsByOpcodeBits := by
  intro w hw
  refine ⟨_, decodeTableWord_eq hw, ?_⟩
  have h := congrArg BitVec.toNat (startWord_and_mask (BitVec.ofNat 8 (w / 256)) (BitVec.ofNat 8 w))
  rw [startWord_bytes, opcode_in_startWord_toNat, BitVec.toNat_and, BitVec.toNat_ofNat, Nat.mod_eq_of_lt hw] at h
  exact h.symm

end Sys2Proof
end

section
/-! PROOF. O6 and O7: the sizes of the header shapes and the minimal length form. -/

namespace Sys2Proof

/-- Settles O6, shape by shape. -/
theorem headerShapeSizes : Obligations.HeaderShapeSizes := by
  rintro i ⟨key, form, payload⟩
  rw [Machine.encodeFrame_length]
  cases form <;> cases key <;> rfl

/-- Settles O7: each form shorter than the minimal one expresses too little. -/
theorem minimalFormIsMinimal : Obligations.MinimalFormIsMinimal := by
  intro n hn
  unfold minimalForm
  split_ifs with h7 h16
  · exact ⟨h7, fun _ _ => Nat.zero_le _⟩
  · refine ⟨h16, fun form hfit => ?_⟩
    cases form with
    | literal => exact absurd hfit h7
    | ext16 | ext64 => decide
  · refine ⟨Nat.le_pred_of_lt hn, fun form hfit => ?_⟩
    cases form with
    | literal => exact absurd hfit h7
    | ext16 => exact absurd hfit h16
    | ext64 => exact le_rfl

end Sys2Proof
end

section
/-! PROOF. O16 and O17: the two protocol errors of the byte-0 step. -/

namespace Sys2Proof.Machine

variable {i : Instr} {s : State}

theorem exec_b0 (i : Instr) (hp : s.phase = .b0) : exec i s = .next (stepB0 (byteZeroOf i) s.beginStep) := by
  rw [exec_eq, frameByte_b0 _ hp]

/-- Settles O16. -/
theorem reservedBitRaisesRsv : Obligations.ReservedBitRaisesRsv := by
  intro i s hp hop hrsv
  refine ⟨?_, rfl⟩
  rw [exec_b0 i hp]
  rcases stepB0_cases (byteZeroOf i) s.beginStep with
    ⟨hinvalid, _⟩ | ⟨_, _, e⟩ | ⟨_, (h1 : i.rsv1 = false), (h2 : i.rsv2 = false), (h3 : i.rsv3 = false), _⟩
  · exact absurd (hop.symm.trans hinvalid) (by decide)
  · rw [e]
    rfl
  · simp [h1, h2, h3] at hrsv

theorem registryValid_eq_false_of_mem {op : BitVec 4}
    (h : op ∈ [0x3#4, 0x4#4, 0x5#4, 0x6#4, 0x7#4, 0xB#4, 0xC#4, 0xD#4, 0xE#4, 0xF#4]) : registryValid op = false := by
  revert op; decide

/-- Settles O17. -/
theorem invalidOpcodeRaisesOpcode : Obligations.InvalidOpcodeRaisesOpcode := by
  intro i s hp hmem
  refine ⟨?_, rfl⟩
  have hinvalid := registryValid_eq_false_of_mem hmem
  rw [exec_b0 i hp]
  rcases stepB0_cases (byteZeroOf i) s.beginStep with ⟨_, e⟩ | ⟨hop, _⟩ | ⟨hop, _⟩
  · rw [e]
    rfl
  · exact absurd (hinvalid.symm.trans hop) (by decide)
  · exact absurd (hinvalid.symm.trans hop) (by decide)

end Sys2Proof.Machine
end

section
/-! PROOF. O47: the value of a payload byte steers nothing. -/

namespace Sys2Proof.Machine

/-- Settles O47: whether the byte completes the frame is read from PAY_CNT and PAYLOAD_LENGTH, not from the byte. -/
theorem payloadBytesDoNotSteer : Obligations.PayloadBytesDoNotSteer := by
  intro i s t t' b hp h h'
  obtain ⟨-, rfl⟩ := eq_storePayload_of_exec hp h
  obtain ⟨-, rfl⟩ := eq_storePayload_of_exec (by exact hp) h'
  rcases storePayload_cases s.pins.inByte s.beginStep with ⟨hc, e⟩ | ⟨hc, e⟩ <;>
    rcases storePayload_cases b { s with pins := { s.pins with inByte := b } }.beginStep with ⟨hc', e'⟩ | ⟨hc', e'⟩ <;>
    rw [e, e']
  · exact ⟨rfl, rfl, rfl, rfl⟩
  · exact absurd hc hc'
  · exact absurd hc' hc
  · exact ⟨rfl, rfl, rfl, rfl⟩

end Sys2Proof.Machine
end

section
/-! PROOF. O8 and O9: the registry's table, and its two maps as inverses of each other. -/

namespace Sys2Proof.Machine

theorem registryType_eq_none_iff {op : BitVec 4} : registryType op = none ↔ registryValid op = false := by
  rw [← registryType_isSome, Option.isSome_eq_false_iff, Option.isNone_iff_eq_none]

theorem registryType_registryOpcode (t : FrameType) : registryType (registryOpcode t) = some t := by
  cases t <;> rfl

theorem registryOpcode_of_registryType {op : BitVec 4} {t : FrameType} (h : registryType op = some t) :
    registryOpcode t = op := by
  unfold registryType at h
  split at h <;> cases h <;> exact BitVec.eq_of_toNat_eq (Eq.symm ‹_›)

theorem exists_registryType_of_registryValid {op : BitVec 4} (h : registryValid op = true) :
    ∃ t, registryType op = some t :=
  Option.isSome_iff_exists.mp ((registryType_isSome op).trans h)

/-- R110's Boolean form over the bits of the opcode. -/
theorem registryValid_eq_bits (op : BitVec 4) :
    registryValid op = (!op.getLsbD 2 && op.extractLsb' 0 2 != 0b11#2) := by
  revert op; decide

/-- Settles O8: the table's fixed rows by evaluation, the ten invalid opcodes by their validity. -/
theorem registryTable : Obligations.RegistryTable := by
  refine ⟨by decide, fun op hmem => ?_, registryValid_eq_bits, by decide, by decide, fun t => ?_, by decide⟩
  · have hinvalid := registryValid_eq_false_of_mem hmem
    exact ⟨hinvalid, registryType_eq_none_iff.mpr hinvalid⟩
  · cases t <;> decide

/-- Settles O9: each map undoes the other, so equal values come from equal arguments. -/
theorem registryMapsAreInverse : Obligations.RegistryMapsAreInverse := by
  refine ⟨by decide, registryType_registryOpcode, fun op hop => ?_, fun t t' h => ?_, fun op op' hop _ h => ?_⟩
  · obtain ⟨t, ht⟩ := exists_registryType_of_registryValid hop
    exact ⟨t, ht, registryOpcode_of_registryType ht⟩
  · have htype := congrArg registryType h
    rwa [registryType_registryOpcode, registryType_registryOpcode, Option.some.injEq] at htype
  · obtain ⟨t, ht⟩ := exists_registryType_of_registryValid hop
    exact (registryOpcode_of_registryType ht).symm.trans (registryOpcode_of_registryType (h ▸ ht))

end Sys2Proof.Machine
end

section
/-! PROOF. O14: every step answers, but for the payload byte that R66 refuses. -/

namespace Sys2Proof.Machine

theorem exceedsPmax_eq_true_iff {s : State} :
    exceedsPmax s = true ↔ ∃ n, s.pmax = some n ∧ n < s.payloadLength.toNat := by
  unfold exceedsPmax
  cases s.pmax <;> simp

/-- Settles O14: there is no fault, and of a clock cycle's moves only a payload byte can be refused. -/
theorem everyStepAnswers : Obligations.EveryStepAnswers := by
  intro s
  rw [step_eq, nextCycle_fields]
  cases h : clockCycle { s with pins := s.nextCycle.pins, pending := s.nextCycle.pending } with
  | next t => exact .inl ⟨t, rfl⟩
  | fault f => cases f
  | refused r =>
    obtain ⟨-, -, he⟩ := clockCycle_eq_refused h
    obtain ⟨hp, hmax, rfl⟩ := exec_eq_refused_iff.mp he
    exact .inr ⟨rfl, hp, exceedsPmax_eq_true_iff.mp hmax⟩

end Sys2Proof.Machine
end

section
/-! PROOF. O15 and O30: a valid byte 0 starts a frame, and PH_ERR discards every byte. -/

namespace Sys2Proof.Machine

/-- Settles O15: a valid opcode and clear reserved bits exclude both errors of the byte-0 step. -/
theorem byteZeroStartsFrame : Obligations.ByteZeroStartsFrame := by
  intro i s hp hop h1 h2 h3
  rw [exec_b0 i hp]
  rcases stepB0_cases (byteZeroOf i) s.beginStep with ⟨hinvalid, _⟩ | ⟨_, hrsv, _⟩ | ⟨_, _, _, _, e⟩
  · exact absurd (hop.symm.trans hinvalid) (by decide)
  · simp [byteZeroOf, h1, h2, h3] at hrsv
  · rw [e, newFrame, byteZeroOf, h1, h2, h3]
    rfl

/-- Settles O30: whatever the instruction, the byte meets PH_ERR's arm. -/
theorem errorPhaseDiscardsBytes : Obligations.ErrorPhaseDiscardsBytes := fun i _ hp => exec_err i hp

end Sys2Proof.Machine
end

section
/-! PROOF. O19, O20 and O23 to O25: the bytes of the length, and the way on from the step that makes it known. -/

namespace Sys2Proof.Machine

variable {s : State} {op : BitVec 4} {t : FrameType} {m : Bool} {l : BitVec 7} {v : Word64}

/-! ## The byte-1 step and the extended-length step, by what they find -/

/-- A byte with a known MASK bit, as byte 1 (R82). -/
theorem byteOne_of_maskBit {b : Byte} (hm : b.getLsbD 7 = m) : byteOne m (b.extractLsb' 0 7) = b :=
  hm ▸ byteOne_eta b

/-- Byte 1 with the policy's MASK bit and a literal length runs `length_known` on it (R122, R123). -/
theorem exec_b1_literal (i : Instr) (hp : s.phase = .b1) (hb : byteOne m l = s.pins.inByte) (hm : m = s.maskReq)
    (hl : l ≤ 125#7) :
    exec i s = .next (lengthKnown s.fin s.opcode (literalLength l) m
      { s.beginStep with masked := m, len7 := l, payloadLength := literalLength l }) := by
  rw [exec_eq, frameByte_b1 _ hp, ← hb]
  exact congrArg _ (stepB1_literal hm hl)

/-- The last extended-length byte runs `length_known` on the length it completes (R124). -/
theorem exec_ext_last (i : Instr) (hp : s.phase = .ext) (hc : s.cnt + 1#4 = extNeed s.len7)
    (hm : s.masked = m) (hv : (s.payloadLength <<< 8) ||| s.pins.inByte.setWidth 64 = v) :
    exec i s = .next (lengthKnown s.fin s.opcode v m
      { s.beginStep with payloadLength := v, cnt := s.cnt + 1#4 }) := by
  subst hm hv
  rw [exec_eq, frameByte_ext _ hp]
  rcases stepExt_cases s.pins.inByte s.beginStep with ⟨_, e⟩ | ⟨hne, _⟩
  · exact congrArg _ e
  · exact absurd hc hne

/-- Settles O19: both indicators are above the literal lengths. -/
theorem byteOneAnnouncesExtendedLength : Obligations.ByteOneAnnouncesExtendedLength := by
  intro i s hp hm hl
  have hgt : ¬s.pins.inByte.extractLsb' 0 7 ≤ 125#7 := by
    rcases hl with h | h <;> rw [h] <;> decide
  have e := stepB1_extended (s := s.beginStep) hm hgt
  rw [byteOne_eta] at e
  rw [exec_eq, frameByte_b1 _ hp]
  exact congrArg _ e

/-- Settles O20: `length_known` waits for the last length byte. -/
theorem extendedByteShiftsIn : Obligations.ExtendedByteShiftsIn := by
  intro i s hp hc
  rw [exec_eq, frameByte_ext _ hp]
  rcases stepExt_cases s.pins.inByte s.beginStep with ⟨hlast, _⟩ | ⟨_, e⟩
  · exact absurd hlast hc
  · exact congrArg _ e

/-! ## The way on -/

/-- `header_complete` of a frame with a payload to come (R127). -/
theorem headerComplete_of_ne_zero (h : v ≠ 0#64) :
    headerComplete v s = { s with phase := .pay, payCnt := 0#64, out := s.out.withSignal .incomplete .none .none } :=
  if_neg h

/-- `header_complete` of an empty frame completes it with its type's control action (R127, R150). -/
theorem headerComplete_of_eq_zero (h : v = 0#64) (ht : registryType s.opcode = some t) :
    headerComplete v s = { s with phase := .b0, out := s.out.withSignal .frameComplete .none (ctlActionOf t) } := by
  rw [headerComplete, if_pos h, frameComplete_eq, completionAction_eq ht]

/-- The control-frame rules, on the type instead of its opcode (R92, R111). -/
theorem controlRule_of_type {fin : Bool} (ht : registryType op = some t)
    (h : isControl t = true → fin = true ∧ v ≤ 125#64) : isControlOp op = true → fin = true ∧ v ≤ 125#64 := by
  rwa [isControlOp_eq ht]

/-- A literal length obeys the length half of the control-frame rules. -/
theorem controlRule_of_literal {fin : Bool} (ht : registryType op = some t) (hl : l ≤ 125#7)
    (hf : isControl t = true → fin = true) : isControlOp op = true → fin = true ∧ literalLength l ≤ 125#64 := by
  have hle : literalLength l ≤ 125#64 := by
    unfold literalLength
    bv_omega
  exact controlRule_of_type ht fun hc => ⟨hf hc, hle⟩

/-- Settles O23: `length_known` of a masked frame, on byte 1 and on the last extended-length byte. -/
theorem knownLengthMaskedGoesToKey : Obligations.KnownLengthMaskedGoesToKey := by
  intro i t s _ ht
  refine ⟨fun hp hm hr hl hf => ?_, fun hp hc hm hctl => ?_⟩
  · rw [exec_b1_literal i hp (byteOne_of_maskBit hm) hr.symm hl, lengthKnown_masked (controlRule_of_literal ht hl hf)]
    rfl
  · rw [exec_ext_last i hp hc hm rfl, lengthKnown_masked (controlRule_of_type ht hctl)]
    rfl

/-- Settles O24: `length_known` of an unmasked frame completes the header, and there is a payload to come. -/
theorem knownLengthUnmaskedGoesToPayload : Obligations.KnownLengthUnmaskedGoesToPayload := by
  intro i t s _ ht
  refine ⟨fun hp hm hr hl hne hf => ?_, fun hp hc hm hne hctl => ?_⟩
  · have hne' : literalLength (s.pins.inByte.extractLsb' 0 7) ≠ 0#64 := by
      unfold literalLength
      bv_omega
    rw [exec_b1_literal i hp (byteOne_of_maskBit hm) hr.symm hl,
      lengthKnown_unmasked (controlRule_of_literal ht hl hf), headerComplete_of_ne_zero hne']
    rfl
  · rw [exec_ext_last i hp hc hm rfl, lengthKnown_unmasked (controlRule_of_type ht hctl),
      headerComplete_of_ne_zero hne]
    rfl

/-- Settles O25: `length_known` of an unmasked frame completes the header, and the header of an empty one the frame. -/
theorem emptyUnmaskedFrameCompletes : Obligations.EmptyUnmaskedFrameCompletes := by
  intro i t s _ ht hf
  refine ⟨fun hp hb hr => ?_, fun hp hc hm hv => ?_⟩
  · have hb' : byteOne false 0#7 = s.pins.inByte := hb.symm
    rw [exec_b1_literal i hp hb' hr.symm (by decide), lengthKnown_unmasked (controlRule_of_literal ht (by decide) hf),
      headerComplete_of_eq_zero (v := literalLength 0#7) rfl (by exact ht)]
    rfl
  · rw [exec_ext_last i hp hc hm hv,
      lengthKnown_unmasked (controlRule_of_type ht fun hctl => ⟨hf hctl, by decide⟩),
      headerComplete_of_eq_zero rfl (by exact ht)]
    rfl

end Sys2Proof.Machine
end

section
/-! PROOF. O26 and O27: the mask key, byte by byte. -/

namespace Sys2Proof.Machine

variable {s : State}

/-- A key byte that is not the fourth is recorded and counted (R125). -/
theorem exec_keyByte {c : BitVec 4} (i : Instr) (hp : s.phase = .key) (hc : s.cnt = c) (hne : c + 1#4 ≠ 4#4) :
    exec i s = .next { s.beginStep with
      maskKey := setKeyByte s.maskKey c.toNat s.pins.inByte, cnt := c + 1#4 } := by
  subst hc
  rw [exec_eq, frameByte_key _ hp]
  rcases stepKey_cases s.pins.inByte s.beginStep with ⟨heq, _⟩ | ⟨_, e⟩
  · exact absurd heq hne
  · exact congrArg _ e

/-- The fourth key byte is recorded and completes the header (R125). -/
theorem exec_lastKeyByte (i : Instr) (hp : s.phase = .key) (hc : s.cnt = 3#4) :
    exec i s = .next (headerComplete s.payloadLength
      { s.beginStep with maskKey := { s.maskKey with k3 := s.pins.inByte }, cnt := 4#4 }) := by
  have hcb : s.beginStep.cnt = 3#4 := hc
  rw [exec_eq, frameByte_key _ hp]
  rcases stepKey_cases s.pins.inByte s.beginStep with ⟨_, e⟩ | ⟨hne, _⟩
  · rw [e, hcb]
    rfl
  · rw [hcb] at hne
    exact absurd rfl hne

/-- Settles O26: none of the three is the fourth key byte. -/
theorem keyByteIsCaptured : Obligations.KeyByteIsCaptured := fun i _ hp =>
  ⟨fun hc => exec_keyByte i hp hc (by decide), fun hc => exec_keyByte i hp hc (by decide),
    fun hc => exec_keyByte i hp hc (by decide)⟩

/-- Settles O27: whether the completed header completes the frame is `header_complete`'s test of the length. -/
theorem lastKeyByteCompletesHeader : Obligations.LastKeyByteCompletesHeader := by
  intro i t s _ ht hp hc
  rw [exec_lastKeyByte i hp hc]
  exact ⟨fun hzero => congrArg _ (headerComplete_of_eq_zero hzero ht),
    fun hne => congrArg _ (headerComplete_of_ne_zero hne)⟩

end Sys2Proof.Machine
end

section
/-! PROOF. O49 and O48: the laws of the unmasker. -/

namespace Sys2Proof.Machine

/-- Settles O49, by the induction over the payload that the frame's round trip rests on. -/
theorem maskingTwiceIsIdentity : Obligations.MaskingTwiceIsIdentity := xorPayload_xorPayload

theorem unmask_mod_four (b : Byte) (i : Nat) (key : MaskKey) : unmask b (i % 4) key = unmask b i key := by
  rw [unmask, unmask, keyByte, keyByte, Nat.mod_mod]

theorem unmask_four_mul_add (b : Byte) (i k : Nat) (key : MaskKey) : unmask b (4 * i + k) key = unmask b k key := by
  rw [← unmask_mod_four, Nat.mul_add_mod, unmask_mod_four]

theorem keyByte_zeroKey (i : Nat) : keyByte zeroKey i = 0#8 := by
  unfold keyByte
  split <;> rfl

theorem unmask_zeroKey (b : Byte) (i : Nat) : unmask b i zeroKey = b := by
  rw [unmask, keyByte_zeroKey, BitVec.xor_zero]

/-- Settles O48: the key byte at index 4i + k is that at k, which for k up to 3 is its k-th. -/
theorem unmaskerLaws : Obligations.UnmaskerLaws := fun b i key =>
  ⟨unmask_four_mul_add b i 0 key, unmask_four_mul_add b i 1 key, unmask_four_mul_add b i 2 key,
    unmask_four_mul_add b i 3 key, unmask_unmask b i key, unmask_zeroKey b i, (unmask_mod_four b i key).symm⟩

end Sys2Proof.Machine
end

section
/-! PROOF. O42 and O28: the counters and lengths do not wrap, and what a payload byte does. -/

namespace Sys2Proof.Machine

variable {s : State}

theorem Inv.payCnt_lt (hi : Inv s) (hp : s.phase = .pay) : s.payCnt < s.payloadLength := (hi.pay hp).2.1

theorem Inv.cnt_le_of_ext (hi : Inv s) (hp : s.phase = .ext) : s.cnt.toNat ≤ 7 := by
  obtain ⟨⟨-, h⟩ | ⟨-, h⟩, -⟩ := hi.ext hp <;> bv_omega

theorem Inv.cnt_le_of_key (hi : Inv s) (hp : s.phase = .key) : s.cnt.toNat ≤ 3 := by
  obtain ⟨-, h, -⟩ := hi.key hp
  bv_omega

/-- Before a length byte is taken, its place in PAYLOAD_LENGTH is free (R46 d). -/
theorem Inv.payloadLength_lt_of_ext (hi : Inv s) (hp : s.phase = .ext) : s.payloadLength.toNat < 2 ^ 56 := by
  have hcnt := hi.cnt_le_of_ext hp
  exact (hi.ext hp).2.trans_le (Nat.pow_le_pow_right (by decide) (by omega))

/-- Settles O42: each bound is R46's for the phase. -/
theorem arithmeticDoesNotWrap : Obligations.ArithmeticDoesNotWrap := by
  intro s hi
  refine ⟨fun hp => ?_, hi.cnt_le_of_ext, hi.cnt_le_of_key, fun hp => cnt_succ_toNat ?_, fun hp b => ?_, ?_⟩
  · have hlt := hi.payCnt_lt hp
    bv_omega
  · rcases hp with hp | hp
    · exact Nat.lt_succ_of_le (hi.cnt_le_of_ext hp)
    · exact (hi.cnt_le_of_key hp).trans_lt (by decide)
  · exact appendLengthByte_toNat b (hi.payloadLength_lt_of_ext hp)
  · exact BitVec.toNat_setWidth_of_le (by decide)

/-- Settles O28: the store is at PAY_CNT's cell, and whether the byte is the last is one comparison. -/
theorem payloadByteIsUnmaskedAndStored : Obligations.PayloadByteIsUnmaskedAndStored := by
  intro i t s _ ht hp hmax
  obtain ⟨hmem, -⟩ := storePayload_memory s.pins.inByte s.beginStep
  refine ⟨_, exec_pay i hp (exceedsPmax_eq_false hmax), ?_, ?_, fun a ha => ?_⟩
  · rcases storePayload_cases s.pins.inByte s.beginStep with ⟨hlast, e⟩ | ⟨hmore, e⟩ <;> rw [e]
    · have hlast' : s.payCnt + 1#64 = s.payloadLength := hlast
      simp only [if_pos hlast', ← completionAction_eq ht]
      rfl
    · have hmore' : s.payCnt + 1#64 ≠ s.payloadLength := hmore
      simp only [if_neg hmore', ← hp]
      rfl
  · rw [hmem]
    exact Memory.read_write_same ..
  · rw [hmem]
    exact Memory.read_write_other s.pmem _ ha

end Sys2Proof.Machine
end

section
/-! PROOF. O57 and O56: what the reassembler answers, and a message whose fragments have control frames among them. -/

namespace Sys2Proof.Machine

variable {f : FrameObs}

theorem acceptInto_of_not_fin (m : Message) (hfin : f.fin = false) : acceptInto m f.fin = (.pending, some m) := by
  simp [acceptInto, hfin]

theorem acceptInto_of_fin (m : Message) (hfin : f.fin = true) : acceptInto m f.fin = (.complete m, none) := by
  simp [acceptInto, hfin]

theorem accept_none_of_text (ht : f.frameType = .text) : accept none f = acceptInto ⟨.text, f.payload⟩ f.fin := by
  simp [accept, ht]

theorem accept_none_of_bin (ht : f.frameType = .bin) : accept none f = acceptInto ⟨.binary, f.payload⟩ f.fin := by
  simp [accept, ht]

theorem accept_none_of_cont (ht : f.frameType = .cont) : accept none f = (.error, none) := by
  simp [accept, ht]

theorem accept_some_of_cont (m : Message) (ht : f.frameType = .cont) :
    accept (some m) f = acceptInto ⟨m.messageType, m.payload ++ f.payload⟩ f.fin := by
  simp [accept, ht]

/-- Fragmentation must use Continuation, not a second initial frame (R162). -/
theorem accept_some_of_initial (m : Message) (ht : f.frameType = .text ∨ f.frameType = .bin) :
    accept (some m) f = (.error, none) := by
  rcases ht with ht | ht <;> simp [accept, ht]

theorem isControl_iff {t : FrameType} : isControl t = true ↔ t = .close ∨ t = .ping ∨ t = .pong := by
  cases t <;> decide

/-- The reassembler leaves the message in progress as it is on a control frame (R164). -/
theorem accept_of_isControl (cur : Option Message) (hc : isControl f.frameType = true) :
    accept cur f = (.pending, cur) := by
  rcases isControl_iff.mp hc with ht | ht | ht <;> simp [accept, ht]

/-- Settles O56: each row is the reassembler's answer for that type, and FIN decides between its two outcomes. -/
theorem reassemblerTransitions : Obligations.ReassemblerTransitions := fun _ m =>
  ⟨fun ht hfin => (accept_none_of_text ht).trans (acceptInto_of_not_fin _ hfin),
    fun ht hfin => (accept_none_of_text ht).trans (acceptInto_of_fin _ hfin),
    fun ht hfin => (accept_none_of_bin ht).trans (acceptInto_of_not_fin _ hfin),
    fun ht hfin => (accept_none_of_bin ht).trans (acceptInto_of_fin _ hfin),
    fun ht => congrArg Prod.fst (accept_none_of_cont ht),
    fun ht hfin => (accept_some_of_cont m ht).trans (acceptInto_of_not_fin _ hfin),
    fun ht hfin => (accept_some_of_cont m ht).trans (acceptInto_of_fin _ hfin),
    fun ht => congrArg Prod.fst (accept_some_of_initial m ht),
    fun hc cur => congrArg Prod.snd (accept_of_isControl cur hc)⟩

/-- The payloads of the Continuation frames of a list, in order. -/
def continuationPayload (gs : List FrameObs) : List Byte :=
  ((gs.filter fun g => g.frameType == .cont).map FrameObs.payload).flatten

theorem continuationPayload_cons_of_cont (gs : List FrameObs) (ht : f.frameType = .cont) :
    continuationPayload (f :: gs) = f.payload ++ continuationPayload gs := by
  simp [continuationPayload, ht]

theorem continuationPayload_cons_of_isControl (gs : List FrameObs) (hc : isControl f.frameType = true) :
    continuationPayload (f :: gs) = continuationPayload gs := by
  have hne : f.frameType ≠ .cont := fun ht => by simp [ht, isControl] at hc
  simp [continuationPayload, hne]

/-- Non-final Continuations append to the message in progress; control frames among them leave it (R162, R164). -/
theorem foldl_accept_fragments (m : Message) (mids : List FrameObs)
    (h : ∀ g ∈ mids, g.frameType = .cont ∧ g.fin = false ∨ isControl g.frameType = true) :
    mids.foldl (fun cur g => (accept cur g).2) (some m) =
      some ⟨m.messageType, m.payload ++ continuationPayload mids⟩ := by
  induction mids generalizing m with
  | nil => simp [continuationPayload]
  | cons g gs ih =>
    obtain ⟨hg, hgs⟩ := List.forall_mem_cons.mp h
    rw [List.foldl_cons]
    rcases hg with ⟨ht, hfin⟩ | hc
    · rw [accept_some_of_cont m ht, acceptInto_of_not_fin _ hfin, ih _ hgs, continuationPayload_cons_of_cont gs ht,
        List.append_assoc]
    · rw [accept_of_isControl _ hc, ih m hgs, continuationPayload_cons_of_isControl gs hc]

/-- Settles O57: the final Continuation completes the message that the fragments before it have built. -/
theorem fragmentsReassemble : Obligations.FragmentsReassemble := by
  intro m mids last hmids ht hfin
  rw [foldl_accept_fragments m mids hmids, accept_some_of_cont _ ht, acceptInto_of_fin _ hfin]
  rfl

end Sys2Proof.Machine
end

section
/-! PROOF. O58 and O59: what the consumer does in a cycle, and what is left of the message in progress. -/

namespace Sys2Proof.Machine

theorem decodableText_iff {p : List Byte} : decodableText p = true ↔ ∀ b ∈ p, b < 0x80#8 := by
  simp [decodableText]

theorem Message.decodable_iff {m : Message} :
    m.decodable = true ↔ m.messageType = .binary ∨ ∀ b ∈ m.payload, b < 0x80#8 := by
  cases ht : m.messageType <;> simp [Message.decodable, ht, decodableText_iff]

section
variable {policy : TextPolicy} {m : Message}

theorem deliverMessage_of_decodable (h : m.messageType = .binary ∨ ∀ b ∈ m.payload, b < 0x80#8) :
    deliverMessage policy m = [.onMessage m] := by
  simp [deliverMessage, Message.decodable_iff.mpr h]

theorem deliverMessage_of_not_ascii (ht : m.messageType = .text) (h : ∃ b ∈ m.payload, 0x80#8 ≤ b) :
    deliverMessage policy m = .onMessage m :: policy m := by
  have hnot : ¬ m.decodable = true := by simpa [Message.decodable_iff, ht] using h
  simp [deliverMessage, hnot]

end

section
variable {policy : TextPolicy} {cur cur' : Option Message} {f : FrameObs}

theorem consumeData_of_pending (h : accept cur f = (.pending, cur')) : consumeData policy cur f = ([], cur') := by
  simp [consumeData, h]

theorem consumeData_of_complete {m : Message} (h : accept cur f = (.complete m, cur')) :
    consumeData policy cur f = (deliverMessage policy m, cur') := by
  simp [consumeData, h]

theorem consumeData_of_error (h : (accept cur f).1 = .error) :
    consumeData policy cur f = ([.teardown .outOfSequence], none) := by
  have hpair : accept cur f = (.error, (accept cur f).2) := Prod.ext h rfl
  rw [consumeData, hpair, endConnection]

end

theorem endConnection_message (why : StopReason) : (endConnection why).2 = none := by
  cases why <;> rfl

section
variable (policy : TextPolicy) (cur : Option Message) {s : State} {r : ErrReason} {a : CtlAction}
  {w : Option PayloadWrite} {f : FrameObs}

theorem consume_of_protocolError (ho : s.out = .consumed .protocolError r a w) :
    consume policy cur s = ([.teardown (.protocolError r)], none) := by
  simp [consume, ho, endConnection]

theorem consume_of_close (ho : s.out = .consumed .frameComplete r .close w) :
    consume policy cur s = ([.onClose], none) := by
  simp [consume, ho, endConnection]

theorem consume_of_ping (ho : s.out = .consumed .frameComplete r .ping w) (hf : frameView s = some f) :
    consume policy cur s = ([.onPing f.payload], cur) := by
  simp [consume, ho, hf]

theorem consume_of_pong (ho : s.out = .consumed .frameComplete r .pong w) (hf : frameView s = some f) :
    consume policy cur s = ([.onPong f.payload], cur) := by
  simp [consume, ho, hf]

theorem consume_of_data (ho : s.out = .consumed .frameComplete r .none w) (hf : frameView s = some f) :
    consume policy cur s = consumeData policy cur f := by
  simp [consume, ho, hf]

theorem consume_of_silent (ho : (∃ a, s.out = .consumed .incomplete r a w) ∨ s.out = .idle) :
    consume policy cur s = ([], cur) := by
  rcases ho with ⟨a, ho⟩ | ho <;> simp [consume, ho]

theorem consume_of_resetCycle (ho : s.out = .resetCycle) : consume policy cur s = ([], none) := by
  simp [consume, ho]

end

/-- Settles O58: the outputs decide what the consumer does, and a data frame's answer is the reassembler's. -/
theorem outputsBecomeCallbacks : Obligations.OutputsBecomeCallbacks := by
  intro policy cur s r w
  refine ⟨fun ho => by rw [consume_of_close policy cur ho],
    fun _ hf =>
      ⟨fun ho => consume_of_ping policy cur ho hf, fun ho => consume_of_pong policy cur ho hf, fun ho => ?_⟩,
    fun _ ho => by rw [consume_of_protocolError policy cur ho], consume_of_silent policy cur,
    fun ho => by rw [consume_of_resetCycle policy cur ho]⟩
  rw [consume_of_data policy cur ho hf]
  refine ⟨fun _ h => consumeData_of_pending h, fun _ _ h => ?_⟩
  rw [consumeData_of_complete h]
  exact ⟨fun hm => by rw [deliverMessage_of_decodable hm],
    fun ht hm => by rw [deliverMessage_of_not_ascii ht hm]⟩

/-- Settles O59: each end of a connection leaves no message, and without one a Continuation is an Error. -/
theorem partialMessageIsNeverDelivered : Obligations.PartialMessageIsNeverDelivered := by
  intro policy cur s r w
  refine ⟨endConnection_message, fun _ ho => by rw [consume_of_protocolError policy cur ho],
    fun ho => by rw [consume_of_close policy cur ho], fun ho => by rw [consume_of_resetCycle policy cur ho],
    fun _ hf ho => ⟨fun herr => ?_, fun ht => ?_⟩⟩
  · rw [consume_of_data policy cur ho hf, consumeData_of_error herr]
  · rw [consume_of_data policy none ho hf, consumeData_of_error (congrArg Prod.fst (accept_none_of_cont ht))]

end Sys2Proof.Machine
end

section
/-! PROOF. O18, O21 and O22: the protocol errors of byte 1 and of the last length byte. -/

namespace Sys2Proof.Machine

variable {s : State} {fin : Bool} {op : BitVec 4} {plen : Word64}

/-- A MASK bit other than the policy's is the byte-1 step's own error (R122, R183). -/
theorem stepB1_maskMismatch {b : Byte} (h : maskBit b ≠ s.maskReq) :
    stepB1 b s = raiseProtocolError .mask { s with masked := maskBit b, len7 := lengthIndicator b } :=
  if_pos h

/-- `length_known` of a fragmented control frame (R126, R184). -/
theorem lengthKnown_fragmented (hc : isControlOp op = true) (hf : fin = false) (plen : Word64) (m : Bool)
    (s : State) : lengthKnown fin op plen m s = raiseProtocolError .ctrlFrag s :=
  if_pos ⟨hc, hf⟩

/-- `length_known` of an unfragmented control frame longer than 125 (R126, R185). -/
theorem lengthKnown_overlong (hc : isControlOp op = true) (hf : fin = true) (hl : plen > 125#64) (m : Bool)
    (s : State) : lengthKnown fin op plen m s = raiseProtocolError .ctrlLen s :=
  (if_neg fun h => absurd (hf.symm.trans h.2) (by decide)).trans (if_pos ⟨hc, hl⟩)

/-- Settles O18: the mask check comes before the length, and PAYLOAD_LENGTH is still that of the new frame. -/
theorem maskMismatchRaisesMask : Obligations.MaskMismatchRaisesMask := by
  intro i s hp hm
  refine ⟨?_, fun hi => (hi.cleared.1 hp).2.2, rfl⟩
  rw [exec_eq, frameByte_b1 _ hp]
  exact congrArg _ (stepB1_maskMismatch (s := s.beginStep) hm)

/-- Settles O21: on byte 1 and on the last extended-length byte, `length_known` finds FIN = 0. -/
theorem fragmentedControlRaisesFrag : Obligations.FragmentedControlRaisesFrag := by
  intro i t s _ ht hctl hf
  have hc : isControlOp s.opcode = true := (isControlOp_eq ht).trans hctl
  refine ⟨fun hp hm hl => ?_, fun hp hc' => ?_, rfl⟩
  · rw [exec_b1_literal i hp (byteOne_of_maskBit rfl) hm hl, lengthKnown_fragmented hc hf]
    rfl
  · rw [exec_ext_last i hp hc' rfl rfl, lengthKnown_fragmented hc hf]
    rfl

/-- Settles O22: on the last extended-length byte, `length_known` finds FIN = 1 and a length above 125. -/
theorem overlongControlRaisesLen : Obligations.OverlongControlRaisesLen := by
  intro i t s _ ht hctl hf hp hc' hl
  have hc : isControlOp s.opcode = true := (isControlOp_eq ht).trans hctl
  rw [exec_ext_last i hp hc' rfl rfl, lengthKnown_overlong hc hf hl]
  exact ⟨rfl, rfl⟩

end Sys2Proof.Machine
end

section
/-! PROOF. O52: a frame that breaks a rule raises its first violation, at that violation's byte, and stores nothing. -/

namespace Sys2Proof.Machine

variable {s : State} {i : Instr} {o : Operands} {r : ErrReason} {m : Memory} {n : Nat} {bs : List Byte}
  {cs rest : List Pins}

/-! ## The error, once raised -/

/-- The last cycle signalled the error `r`, and PMEM is still `m` (R190). -/
def ErrorRaised (r : ErrReason) (m : Memory) (s : State) : Prop :=
  s.phase = .err ∧ s.errReason = r ∧ s.out = .consumed .protocolError r .none none ∧ s.pmem = m

theorem raiseProtocolError_raised (r : ErrReason) (ho : HeaderByteTaken s) :
    ErrorRaised r s.pmem (raiseProtocolError r s) :=
  ⟨rfl, rfl, congrArg (Outputs.withSignal · _ _ _) ho, rfl⟩

/-- A byte after an error signals it again and changes nothing else (R128). -/
theorem ErrorRaised.step_byte {b : Byte} (hs : ErrorRaised r m s) (h : s.pending = byteCycle b :: cs) :
    ∃ t, step s = .next t ∧ ErrorRaised r m t ∧ t.pending = cs := by
  obtain ⟨hp, hr, -, hm⟩ := hs
  refine ⟨_, (step_byteCycle h).trans (exec_err _ (by exact hp)), ⟨hp, hr, ?_, hm⟩, rfl⟩
  rw [← hr]
  rfl

theorem ErrorRaised.run_bytes (hs : ErrorRaised r m s) (h : s.pending = byteCycles bs ++ rest) :
    ∃ t, RunThrough (ErrorRaised r m) bs.length s t := by
  induction bs generalizing s with
  | nil => exact ⟨s, .refl s⟩
  | cons b bs ih =>
    obtain ⟨t, hstep, ht, hpend⟩ := hs.step_byte h
    obtain ⟨u, hrun⟩ := ih ht hpend
    exact ⟨u, .head hstep ht hrun⟩

/-- From `s`, `n` header bytes are taken, the next one raises `r`, and then the cycles `cs` are still to come. -/
def RaisesAt (r : ErrReason) (n : Nat) (s : State) (cs : List Pins) : Prop :=
  ∃ t u, RunThrough HeaderByteTaken n s t ∧ step t = .next u ∧ ErrorRaised r s.pmem u ∧ u.pending = cs

theorem RaisesAt.incomplete_before (h : RaisesAt r n s cs) {k : Nat} (hk : 0 < k) (hkn : k ≤ n) :
    ∃ u, Host.Core.run Sys2Proof.core k s = .next u ∧ HeaderByteTaken u := by
  obtain ⟨t, u, hrun, -⟩ := h
  exact hrun.prop_at hk hkn

theorem RaisesAt.raised_after (h : RaisesAt r n s (byteCycles bs ++ rest)) {k : Nat} (hk : n < k)
    (hkn : k ≤ n + 1 + bs.length) :
    ∃ u, Host.Core.run Sys2Proof.core k s = .next u ∧ ErrorRaised r s.pmem u := by
  obtain ⟨t, u, hrun, hstep, hu, hpend⟩ := h
  obtain ⟨v, herr⟩ := hu.run_bytes hpend
  obtain ⟨j, rfl⟩ := Nat.exists_eq_add_of_lt hk
  rw [Nat.add_assoc, run_add hrun.run_eq]
  exact (RunThrough.head hstep hu herr).prop_at j.succ_pos (by omega)

/-! ## The byte of each violation -/

/-- The byte-0 step finds the violation of byte 0 (R121, R181, R182). -/
theorem stepB0_of_startViolation (hv : startViolation i = some r) (s : State) :
    (r = .opcode ∨ r = .rsv) ∧ stepB0 (byteZeroOf i) s = raiseProtocolError r (newFrame (byteZeroOf i) s) := by
  unfold startViolation at hv
  split at hv
  · next hop =>
    cases hv
    exact ⟨.inl rfl, if_pos hop⟩
  · next hop =>
    split at hv
    · next hrsv =>
      cases hv
      exact ⟨.inr rfl, (if_neg hop).trans (if_pos hrsv)⟩
    · cases hv

theorem raisesAt_startByte (hp : s.phase = .b0) (hv : startViolation i = some r)
    (h : s.pending = byteCycle (encodeByte i) :: cs) : RaisesAt r 0 s cs := by
  have hs := step_b0 hp h
  rw [decodeByte_encodeByte, (stepB0_of_startViolation hv _).2] at hs
  exact ⟨s, _, .refl s, hs, raiseProtocolError_raised r rfl, rfl⟩

theorem raisesAt_maskByte {l : BitVec 7} (hp : s.phase = .b0) (hv : startViolation i = none)
    (hm : o.key.isSome ≠ s.maskReq)
    (h : s.pending = byteCycle (encodeByte i) :: byteCycle (byteOne o.key.isSome l) :: cs) :
    RaisesAt .mask 1 s cs := by
  have hs := step_startByte hp hv h
  have hbit : maskBit (byteOne o.key.isSome l) ≠ s.maskReq := by rwa [maskBit, (byteOne_bits _ l).1]
  exact ⟨_, _, .head hs rfl (.refl _), (step_b1 (by rfl) (by rfl)).trans (congrArg _ (stepB1_maskMismatch hbit)),
    raiseProtocolError_raised .mask rfl, rfl⟩

/-- The control-frame rule that a frame breaks, its FIN before its length (R184, R185). -/
def ControlViolation (i : Instr) (o : Operands) (r : ErrReason) : Prop :=
  isControlOp i.opcode = true ∧ (i.fin = false ∧ r = .ctrlFrag ∨ i.fin = true ∧ o.payload.length > 125 ∧ r = .ctrlLen)

theorem operandViolation_cases {mr : Bool} (h : operandViolation mr i o = some r) :
    (o.key.isSome ≠ mr ∧ r = .mask) ∨ (o.key.isSome = mr ∧ ControlViolation i o r) := by
  unfold operandViolation at h
  split at h
  · next hm =>
    cases h
    exact .inl ⟨hm, rfl⟩
  · next hm =>
    refine .inr ⟨not_not.mp hm, ?_⟩
    split at h
    · next hc =>
      cases h
      exact ⟨hc.1, .inl ⟨hc.2, rfl⟩⟩
    · next hf =>
      split at h
      · next hc =>
        cases h
        exact ⟨hc.1, .inr ⟨by simpa [hc.1] using hf, hc.2, rfl⟩⟩
      · cases h

theorem lengthKnown_of_controlViolation (hv : ControlViolation i o r) (hlt : o.payload.length < 2 ^ 64) (m : Bool)
    (s : State) :
    lengthKnown i.fin i.opcode (BitVec.ofNat 64 o.payload.length) m s = raiseProtocolError r s := by
  obtain ⟨hc, ⟨hf, rfl⟩ | ⟨hf, hl, rfl⟩⟩ := hv
  · exact lengthKnown_fragmented hc hf _ m s
  · refine lengthKnown_overlong hc hf ?_ m s
    rw [gt_iff_lt, BitVec.lt_def, ofNat64_toNat hlt]
    exact hl

theorem raisesAt_lastLengthByte (hp : s.phase = .b0) (hv : startViolation i = none)
    (hm : o.key.isSome = s.maskReq) (hfit : o.payload.length ≤ o.form.maxLength) (hc : ControlViolation i o r)
    (h : s.pending = byteCycles (encodeByte i :: byteOne o.key.isSome (o.form.indicator o.payload.length) ::
      bigEndian o.form.extBytes o.payload.length) ++ cs) : RaisesAt r (1 + o.form.extBytes) s cs := by
  obtain ⟨t, ph, c, p, hrun, hstep⟩ := lengthKnown_of_frameStart hp hv hm hfit h
  rw [lengthKnown_of_controlViolation hc (hfit.trans_lt (maxLength_lt o.form))] at hstep
  rw [Nat.add_comm]
  exact ⟨t, _, hrun, hstep, raiseProtocolError_raised r rfl, rfl⟩

/-! ## The frame -/

theorem violationOffset_of_controlViolation (hc : ControlViolation i o r) :
    violationOffset ⟨i, some o⟩ r = 1 + o.form.extBytes := by
  obtain ⟨-, ⟨-, rfl⟩ | ⟨-, -, rfl⟩⟩ := hc <;> rfl

/-- The bytes of a frame go on after the byte of its violation with some `bs`. -/
theorem raisesAt_violationOffset {f : Frame} (hwf : f.wf = true) (hviol : firstViolation s.maskReq f = some r)
    (hp : s.phase = .b0) (h : s.pending = byteCycles (encodeFrame f) ++ rest) :
    ∃ bs, (encodeFrame f).length = violationOffset f r + 1 + bs.length ∧
      RaisesAt r (violationOffset f r) s (byteCycles bs ++ rest) := by
  obtain ⟨i, ops⟩ := f
  cases hv : startViolation i with
  | some r' =>
    obtain rfl : r' = r := by simpa [firstViolation, hv] using hviol
    have hoff : violationOffset ⟨i, ops⟩ r' = 0 := by
      rcases (stepB0_of_startViolation hv s).1 with rfl | rfl <;> rfl
    rw [hoff]
    exact ⟨_, Nat.add_comm .., raisesAt_startByte hp hv h⟩
  | none =>
    cases ops with
    | none => simp [firstViolation, hv] at hviol
    | some o =>
      obtain ⟨-, hfit⟩ := wf_frame.mp hwf
      have hov : operandViolation s.maskReq i o = some r := by simpa [firstViolation, hv] using hviol
      rcases operandViolation_cases hov with ⟨hm, rfl⟩ | ⟨hm, hc⟩
      · exact ⟨_, Nat.add_comm _ 2, raisesAt_maskByte hp hv hm h⟩
      · rw [violationOffset_of_controlViolation hc]
        refine ⟨keyBytes o.key ++ xorPayload (o.key.getD zeroKey) 0 o.payload, ?_,
          raisesAt_lastLengthByte hp hv hm hfit hc (by simpa [encodeFrame, encodeOperands] using h)⟩
        rw [encodeFrame_length, List.length_append, xorPayload_length]
        omega

/-- Settles O52: the frame's header is taken up to the byte of its violation, which raises it, and PH_ERR discards the
bytes after it. -/
theorem violatingFrameRaisesFirstViolation : Obligations.ViolatingFrameRaisesFirstViolation := by
  intro f r s rest hwf hviol hp h
  obtain ⟨bs, hlen, hraises⟩ := raisesAt_violationOffset hwf hviol hp h
  rw [hlen]
  exact ⟨by omega, fun k => hraises.incomplete_before, fun k => hraises.raised_after⟩

end Sys2Proof.Machine
end

section
/-! PROOF. O33: the offsets at which errors are raised. -/

namespace Sys2Proof.Machine

variable {s : State} {h : ByteZero} {b : Byte}

/-! ## The errors of each step -/

theorem headerComplete_phase_ne_err (plen : Word64) (s : State) : (headerComplete plen s).phase ≠ .err := by
  rcases headerComplete_cases plen s with ⟨_, e⟩ | ⟨_, e⟩ <;> rw [e] <;> simp [frameComplete_eq]

theorem lengthKnown_error {fin : Bool} {op : BitVec 4} {plen : Word64} {m : Bool}
    (he : (lengthKnown fin op plen m s).phase = .err) :
    (lengthKnown fin op plen m s).errReason = .ctrlFrag ∨
      (plen > 125#64 ∧ (lengthKnown fin op plen m s).errReason = .ctrlLen) := by
  rcases lengthKnown_cases fin op plen m s with ⟨_, _, e⟩ | ⟨_, _, hl, e⟩ | ⟨_, _, e⟩ | ⟨_, _, e⟩ <;> rw [e] at he ⊢
  · exact .inl rfl
  · exact .inr ⟨hl, rfl⟩
  · cases he
  · exact absurd he (headerComplete_phase_ne_err plen s)

theorem stepB0_error (he : (stepB0 h s).phase = .err) :
    (stepB0 h s).errReason = .opcode ∨ (stepB0 h s).errReason = .rsv := by
  rcases stepB0_cases h s with ⟨_, e⟩ | ⟨_, _, e⟩ | ⟨_, _, _, _, e⟩ <;> rw [e] at he ⊢
  · exact .inl rfl
  · exact .inr rfl
  · cases he

/-- A literal length is never above 125, so byte 1 does not raise E_CTRL_LEN (R185). -/
theorem stepB1_error (he : (stepB1 b s).phase = .err) :
    (stepB1 b s).errReason = .mask ∨ (stepB1 b s).errReason = .ctrlFrag := by
  rcases stepB1_cases b s with ⟨_, e⟩ | ⟨_, hl, e⟩ | ⟨_, _, e⟩ <;> rw [e] at he ⊢
  · exact .inl rfl
  · rcases lengthKnown_error he with hr | ⟨hgt, _⟩
    · exact .inr hr
    · unfold literalLength at hgt
      bv_omega
  · cases he

theorem stepExt_error (hp : s.phase = .ext) (he : (stepExt b s).phase = .err) :
    s.cnt + 1#4 = extNeed s.len7 ∧ ((stepExt b s).errReason = .ctrlFrag ∨ (stepExt b s).errReason = .ctrlLen) := by
  rcases stepExt_cases b s with ⟨hc, e⟩ | ⟨_, e⟩ <;> rw [e] at he ⊢
  · exact ⟨hc, (lengthKnown_error he).imp_right And.right⟩
  · cases hp.symm.trans he

theorem stepKey_phase_ne_err (hp : s.phase = .key) : (stepKey b s).phase ≠ .err := by
  rcases stepKey_cases b s with ⟨_, e⟩ | ⟨_, e⟩ <;> rw [e]
  · exact headerComplete_phase_ne_err _ _
  · simp [hp]

theorem storePayload_phase_ne_err (hp : s.phase = .pay) : (storePayload b s).phase ≠ .err := by
  rcases storePayload_cases b s with ⟨_, e⟩ | ⟨_, e⟩ <;> rw [e] <;> simp [hp]

/-- The last extended-length byte is at offset 3 or 9 (R189). -/
theorem frameOffset_of_lastLengthByte (hp : s.phase = .ext) (hc : s.cnt + 1#4 = extNeed s.len7) :
    frameOffset s = some 3 ∨ frameOffset s = some 9 := by
  have hoff : frameOffset s = some (2 + s.cnt.toNat) := by simp [frameOffset, hp]
  rw [hoff]
  unfold extNeed at hc
  split at hc
  · have hcnt : s.cnt = 1#4 := by bv_omega
    exact .inl (by rw [hcnt]; rfl)
  · have hcnt : s.cnt = 7#4 := by bv_omega
    exact .inr (by rw [hcnt]; rfl)

/-- Settles O33: the phase tells the offset, and each phase's step has its own errors. In PH_EXT the comparison that ends
the length field gives CNT, so the proof does not use the invariant. -/
theorem errorsOnlyOnHeaderBytes : Obligations.ErrorsOnlyOnHeaderBytes := by
  intro i s t _ hne hx he
  rcases exec_cases hx with ⟨hp, rfl⟩ | ⟨hp, rfl⟩ | ⟨hp, rfl⟩ | ⟨hp, rfl⟩ | ⟨hp, _, rfl⟩ | ⟨hp, _⟩
  · rcases stepB0_error he with hr | hr <;> rw [hr] <;> simp [frameOffset, hp]
  · rcases stepB1_error he with hr | hr <;> rw [hr] <;> simp [frameOffset, hp]
  · obtain ⟨hc, hr | hr⟩ := stepExt_error (s := s.beginStep) hp he <;> rw [hr]
    · exact .inr (frameOffset_of_lastLengthByte hp hc)
    · exact frameOffset_of_lastLengthByte hp hc
  · exact absurd he (stepKey_phase_ne_err (s := s.beginStep) hp)
  · exact absurd he (storePayload_phase_ne_err (s := s.beginStep) hp)
  · exact absurd hp hne

end Sys2Proof.Machine
end

section
/-! PROOF. O55: a reset forgets the frame. -/

namespace Sys2Proof.Machine

theorem step_reset {s : State} {p : Pins} {rest : List Pins} (hr : p.rst = true) (h : s.pending = p :: rest) :
    step s = .next (resetCycle (s.latch p rest)) :=
  (step_of_pending h).trans (if_pos hr)

/-- Settles O55: a reset cycle keeps PMEM with its window, PMAX and the input, and sets all the rest. -/
theorem resetForgetsTheFrame : Obligations.ResetForgetsTheFrame := by
  intro s s' p rest hr h h' hmem hpmax
  refine ⟨resetCycle (s.latch p rest), step_reset hr h, (step_reset hr h').trans ?_⟩
  simp only [resetCycle, State.latch, hmem, hpmax]

end Sys2Proof.Machine
end

section
/-! PROOF. O11 and O13: what a reset cycle sets, and that no other step writes the policy. -/

namespace Sys2Proof.Machine

/-- OPCODE's reset value is the Continuation's, so these ports read as an empty frame's (R29, R210). -/
theorem ports_resetCycle (s : State) :
    (ports (resetCycle s)).sigValid = false ∧ (ports (resetCycle s)).pwEn = false ∧
      (ports (resetCycle s)).fFtypeValid = true ∧ (ports (resetCycle s)).fFtype = 0b000#3 :=
  ⟨rfl, rfl, rfl, rfl⟩

/-- Settles O11: the step is `resetCycle` of the latched state, whatever else the pins present. -/
theorem resetCycleSetsEveryRegister : Obligations.ResetCycleSetsEveryRegister := by
  intro s p rest h hr
  refine ⟨resetCycle (s.latch p rest), step_reset hr h, ?_⟩
  simp [ports_resetCycle, zeroKey]

/-- Settles O13: of the three cycles only the reset samples the pin; a byte's frame has the policy and PMAX in it. -/
theorem policyIsSampledOnlyByReset : Obligations.PolicyIsSampledOnlyByReset := by
  intro s t h
  obtain ⟨p, ps, ⟨hr, rfl⟩ | ⟨hr, -, he⟩ | ⟨hr, -, rfl⟩⟩ := step_cases h
  · exact ⟨fun _ => rfl, fun hf => absurd hf (by simp [hr]), rfl⟩
  · obtain ⟨-, -, hreq, hmax, hpins, -⟩ := execMemoryFrame _ _ _ he
    exact ⟨fun ht => absurd ht (by simp [hpins, hr]), fun _ => hreq, hmax⟩
  · exact ⟨fun ht => absurd ht (by simp [hr]), fun _ => rfl, rfl⟩

end Sys2Proof.Machine
end
